-- ==== Sys2Proof/Word.lean ====
section
/-! DEFINITION. The word types of the model: bytes, 16-bit fields, 32-bit registers and operands, output pixels. -/

namespace Sys2Proof

/-- A byte (R8). -/
abbrev Byte := BitVec 8

/-- A 16-bit field. -/
abbrev Half := BitVec 16

/-- A 32-bit register, address or raster-operation operand. -/
abbrev Word := BitVec 32

/-- An output frame-buffer pixel: a number below `2 ^ OUT_BITS`, a width that the configuration fixes (R7, R25). -/
abbrev Pixel := Nat

end Sys2Proof
end

