-- ==== Sys2Proof/Config.lean ====
section
/-! DEFINITION. What an implementation fixes (R7) and the free values.

The parameters of R7 are the record `HostConfig`, which `State` holds as data, so that a statement about every state is a
statement about every configuration (log 9, log 16, log 17); the defaults the spec gives its layout tables stand beside it
by name. What the spec leaves OPEN and no record can hold, and what it leaves arbitrary, is an opaque constant: nothing in
Lean can evaluate it or prove what it is. -/

namespace Sys2Proof

/-! ## Record types the OPEN functions range over -/

/-- A pixel-map descriptor (R30): address of pixel (0,0), stored width and height, 4-bit format code (R111). -/
structure MapDesc where
  base : Word
  width : Half
  height : Half
  format : BitVec 4
  deriving DecidableEq, Repr

/-- The four pixel-map descriptors (R30). -/
structure MapBank where
  m0 : MapDesc
  m1 : MapDesc
  m2 : MapDesc
  m3 : MapDesc
  deriving DecidableEq, Repr

/-- The fields `RECALC` reads: the operating mode (R354), the CRTC timing fields (R32) and display control (R33). -/
structure CrtcRegs where
  opMode : Byte
  htotal : Half
  vtotal : Half
  hblankstart : Half
  vblankstart : Half
  hsyncstart : Half
  vsyncstart : Half
  hdispend : Half
  vdispend : Half
  linecmp : Half
  dispMode : Byte
  dispAddr : BitVec 24
  dispPitch : Half
  clkSel : BitVec 2
  deriving DecidableEq, Repr

/-- The effective timing values (R41). The spec states no width for them: natural numbers (log 25). -/
structure Eff where
  vTotal : Nat
  dispend : Nat
  vSyncstart : Nat
  split : Nat
  hDisp : Nat
  rowoffset : Nat
  maLatch : Nat
  rowcount : Nat
  interlace : Bool
  bpp16 : Bool
  deriving DecidableEq, Repr, Inhabited

/-- A palette entry: red, green, blue (R24). -/
structure Rgb where
  r : Byte
  g : Byte
  b : Byte
  deriving DecidableEq, Repr, Inhabited

/-! ## The layout tables of the record -/

/-- `CMD_LAYOUT` (R102): the position of the lowest bit of each command field. The widths are those of R102, and every
position leaves its field inside the word. -/
structure CmdLayout where
  opcode : Fin 29
  bgSrc : Fin 31
  fgSrc : Fin 31
  srcSel : Fin 29
  dstSel : Fin 29
  patSel : Fin 29
  maskMode : Fin 31
  drawMode : Fin 31
  octant : Fin 30
  deriving DecidableEq, Repr

/-- The 27 accelerator registers of R252. -/
inductive AccReg where
  | pxMapIdx | mapBase | mapWidth | mapHeight | mapFormat
  | bresErrTerm | bresK1 | bresK2 | shortStroke
  | frgdMix | bkgdMix | ccCond | colorCmp | planeMask | frgdColor | bkgdColor
  | bltWidth | bltHeight | maskOriginX | maskOriginY
  | srcMapX | srcMapY | patMapX | patMapY | dstMapX | dstMapY | command
  deriving DecidableEq, Repr

/-- One row of `ACCEL_REG_MAP`: a register, its first offset and its bytes. -/
structure AccEntry where
  reg : AccReg
  off : Nat
  bytes : Nat
  deriving DecidableEq, Repr

/-- The fields an extended sub-register stores (R343), and the two data registers and two index registers that have
rules of their own (R344, R345). -/
inductive SubField where
  | htotal | hdispend | hblankstart | hsyncstart | vtotal | vdispend | vblankstart | vsyncstart | linecmp
  | hwcX | hwcXoff | hwcY | hwcYoff | hwcEna | hwcColor0 | hwcColor1
  | dispAddr | dispPitch | dispMode | clkSel
  | dacAndSpriteIndex | spriteIndexHigh | paletteData | spriteData
  deriving DecidableEq, Repr

/-- One row of the sub-register map: index, field, byte lane, and whether the write recalculates. -/
structure SubEntry where
  index : Nat
  field : SubField
  lane : Nat
  recalc : Bool
  deriving DecidableEq, Repr

/-- What an extended port reaches (R341): one of the six discrete fields, or the sub-register that the index selects. -/
inductive PortField where
  | opMode | apertureCntl | port4 | apIdx | accessMode | regIdx | data
  deriving DecidableEq, Repr

/-- One row of the port table of R341. -/
structure PortEntry where
  port : BitVec 4
  field : PortField
  deriving DecidableEq, Repr

/-- `EXT_REG_MAP` (R7, D22): the pairing of ports and fields, and the map of the sub-register indices. A port or an index
without an entry ignores writes and reads 0. -/
structure ExtRegMap where
  ports : List PortEntry
  subs : List SubEntry
  deriving DecidableEq, Repr

/-! ## The configuration record -/

/-- Which function `RECALC` is (R283): the OPEN one, or the reference instantiation `RECALC_ID`. -/
inductive RecalcRule where
  /-- OPEN: the opaque `Config.recalc`. -/
  | free
  /-- `RECALC_ID`, the plain copy of R283's table. -/
  | identity
  deriving DecidableEq, Repr

/-- The configuration record of R7 that the host fixes at attach. A predicate the spec leaves OPEN is `none` (then an
opaque constant answers it) or `some` of a value that a claim names. -/
structure HostConfig where
  /-- `INSTANCE`: selects the 16-port window; no rule of the core reads it. -/
  adapterNo : Nat
  /-- `MMIO_BASE`: host address of the memory-mapped window; no rule of the core reads it. -/
  mmioBase : Word
  /-- The boot ROM image, as far as it is known; a byte it does not list is the free value `Config.romByte`. -/
  rom : List Byte
  /-- Base-2 logarithm of `VRAM_SIZE` (a power of two, R7). -/
  vramLog2 : BitVec 5
  /-- `ACCEL_WINDOW_BASE` in MiB (1 MiB aligned, R7, R76). -/
  accelWindowMiB : BitVec 12
  /-- `OOR_READ_BYTE` (R74). -/
  oorByte : Byte
  /-- `MAP_DIM_BIAS` (R30, D6). -/
  mapDimBias : Nat
  /-- `CC_CODE4_PASSES` (R108, R184). -/
  ccCode4Passes : Bool
  /-- `OP4_ON_STEPS_WRITE` (R236). -/
  op4OnStepsWrite : Bool
  /-- `ROW_UNIT`: bytes per unit of `rowoffset` (R295). -/
  rowUnit : Nat
  /-- `BANKED_BASE` (R348). -/
  bankedBase : Word
  /-- `ACCESS8` as a table over the access-mode byte, or OPEN (R133, D10). -/
  access8 : Option (BitVec 256)
  /-- `SWAP16` as a table over the access-mode byte, or OPEN (R137, D10). -/
  swap16 : Option (BitVec 256)
  /-- `PAT_TILED` at the trigger, or OPEN (R204, D15). -/
  patTiled : Option Bool
  /-- `SRC_TILED` at the trigger, or OPEN (R204, D15). -/
  srcTiled : Option Bool
  /-- `RECALC` (R283). -/
  recalc : RecalcRule
  /-- `CMD_LAYOUT` (R102, D1). -/
  cmdLayout : CmdLayout
  /-- `ACCEL_REG_MAP` (R252, D20). -/
  accelRegMap : List AccEntry
  /-- `EXT_REG_MAP` (R341, R343, D22). -/
  extRegMap : ExtRegMap
  /-- `FIRSTLINE_NONE` (R40, D23): the value of `firstline` that means no line was rendered. The model takes it as the
  sentinel of `firstline_draw` too (DESIGN CHOICE, log 39). -/
  firstlineNone : Half
  /-- `OUT_BITS` (R25, D26): the width of an output pixel. -/
  outBits : Nat
  deriving DecidableEq, Repr

/-! ## Opaque constants: the free values -/

/-- OPEN `ACCESS8(am)`: "the device is in an 8-bit access mode" (R133, log 10). -/
opaque Config.access8 : Byte → Bool

/-- OPEN `SWAP16(am)` (R137, log 10). -/
opaque Config.swap16 : Byte → Bool

/-- OPEN `PAT_TILED`, over the descriptors and the command word at the trigger (R204, log 11). -/
opaque Config.patTiled : MapBank → Word → Bool

/-- OPEN `SRC_TILED`, over the descriptors and the command word at the trigger (R204, log 11). -/
opaque Config.srcTiled : MapBank → Word → Bool

/-- OPEN `RECALC` (R283, log 12). -/
opaque Config.recalc : CrtcRegs → Eff

/-- OPEN `PAL(i)`: output pixel of palette index `i`, whose entry is given (R292, log 13). The first argument is
`OUT_BITS`; only that many bits of the answer count. -/
opaque Config.pal : Nat → Byte → Rgb → Pixel

/-- OPEN `RGB565(w)`: output pixel of a 16-bit pixel (R292, log 13). The first argument is `OUT_BITS`; only that many bits
of the answer count. -/
opaque Config.rgb565 : Nat → Half → Pixel

/-- What byte `a` of video memory holds in device number `k` until something writes it (R21; log 5). -/
opaque Config.vramInit : Nat → Nat → Byte

/-- What byte `a` of the sprite buffer holds in device number `k` until something writes it (R23, R391; log 6). -/
opaque Config.spriteInit : Nat → Nat → Byte

/-- What palette entry `i` holds in device number `k` until something writes it (R24, R391; log 6). -/
opaque Config.paletteInit : Nat → Nat → Rgb

/-- What register `k` of the host's legacy CRTC file holds until something writes it (R352; log 21). -/
opaque Config.crtcInit : Nat → Byte

/-- OPEN `PIXCLK[i]`: the four pixel-clock frequencies (R281); no rule reads one. -/
opaque Config.pixclk : BitVec 2 → Nat

/-- The oracle `SysRead` (R77): answer number `k` of system memory to address `a` and width `n` (log 14). -/
opaque Config.sysRead : Nat → Word → Nat → Word

/-- A byte of the boot ROM image that the configuration record does not list (R349, log 15). -/
opaque Config.romByte : Nat → Byte

/-- What an output pixel that no rule has written holds (R25: the buffer is the host's; log 7). -/
opaque Config.fbInit : Half → Nat → Pixel

/-- Whether the legacy CRTC file's lock bit is set; where the bit lives is not in the source (R352, log 21). -/
opaque Config.crtcLocked : List (Nat × Byte) → Bool

/-- Whether the legacy CRTC file's protect bit is set (R352, log 21). -/
opaque Config.crtcProtected : List (Nat × Byte) → Bool

/-- What the filter on bit 4 makes of a protected write of register 7: old value, new value (R352, log 21). -/
opaque Config.crtcFilter7 : Byte → Byte → Byte

/-! ## Constants of the source, and the defaults of the tables -/

/-- `PAGE_SHIFT` (R7): pages of 4 KiB. -/
def Config.pageShift : Nat := 12

/-- Size of the accelerator's window onto video memory: 1 MiB (R76). -/
def Config.accelWindowSize : Nat := 0x100000

/-- The default `CMD_LAYOUT` (R102, D1). -/
def Config.cmdLayout : CmdLayout :=
  { opcode := 28, bgSrc := 26, fgSrc := 24, srcSel := 20, dstSel := 16, patSel := 12,
    maskMode := 6, drawMode := 4, octant := 0 }

/-- The default `ACCEL_REG_MAP` (R252, D20). -/
def Config.accelRegMap : List AccEntry :=
  [⟨.pxMapIdx, 0x12, 1⟩, ⟨.mapBase, 0x14, 4⟩, ⟨.mapWidth, 0x18, 2⟩, ⟨.mapHeight, 0x1A, 2⟩, ⟨.mapFormat, 0x1C, 1⟩,
   ⟨.bresErrTerm, 0x20, 2⟩, ⟨.bresK1, 0x24, 2⟩, ⟨.bresK2, 0x28, 2⟩, ⟨.shortStroke, 0x2C, 4⟩,
   ⟨.frgdMix, 0x48, 1⟩, ⟨.bkgdMix, 0x49, 1⟩, ⟨.ccCond, 0x4A, 1⟩, ⟨.colorCmp, 0x4C, 4⟩, ⟨.planeMask, 0x50, 4⟩,
   ⟨.frgdColor, 0x58, 4⟩, ⟨.bkgdColor, 0x5C, 4⟩, ⟨.bltWidth, 0x60, 2⟩, ⟨.bltHeight, 0x62, 2⟩,
   ⟨.maskOriginX, 0x6C, 2⟩, ⟨.maskOriginY, 0x6E, 2⟩, ⟨.srcMapX, 0x70, 2⟩, ⟨.srcMapY, 0x72, 2⟩,
   ⟨.patMapX, 0x74, 2⟩, ⟨.patMapY, 0x76, 2⟩, ⟨.dstMapX, 0x78, 2⟩, ⟨.dstMapY, 0x7A, 2⟩, ⟨.command, 0x7C, 4⟩]

/-- The sub-register indices of the default `EXT_REG_MAP` (R343, D22). The colour registers' lanes are red high. -/
def Config.extSubs : List SubEntry :=
  [⟨0x10, .htotal, 0, false⟩, ⟨0x11, .htotal, 1, true⟩, ⟨0x12, .hdispend, 0, false⟩, ⟨0x13, .hdispend, 1, true⟩,
   ⟨0x14, .hblankstart, 0, false⟩, ⟨0x15, .hblankstart, 1, true⟩,
   ⟨0x18, .hsyncstart, 0, false⟩, ⟨0x19, .hsyncstart, 1, true⟩,
   ⟨0x20, .vtotal, 0, false⟩, ⟨0x21, .vtotal, 1, true⟩, ⟨0x22, .vdispend, 0, false⟩, ⟨0x23, .vdispend, 1, true⟩,
   ⟨0x24, .vblankstart, 0, false⟩, ⟨0x25, .vblankstart, 1, true⟩,
   ⟨0x28, .vsyncstart, 0, false⟩, ⟨0x29, .vsyncstart, 1, true⟩,
   ⟨0x2C, .linecmp, 0, false⟩, ⟨0x2D, .linecmp, 1, true⟩,
   ⟨0x30, .hwcX, 0, false⟩, ⟨0x31, .hwcX, 1, false⟩, ⟨0x32, .hwcXoff, 0, false⟩,
   ⟨0x33, .hwcY, 0, false⟩, ⟨0x34, .hwcY, 1, false⟩, ⟨0x35, .hwcYoff, 0, false⟩, ⟨0x36, .hwcEna, 0, false⟩,
   ⟨0x38, .hwcColor0, 2, false⟩, ⟨0x39, .hwcColor0, 1, false⟩, ⟨0x3A, .hwcColor0, 0, false⟩,
   ⟨0x3B, .hwcColor1, 2, false⟩, ⟨0x3C, .hwcColor1, 1, false⟩, ⟨0x3D, .hwcColor1, 0, false⟩,
   ⟨0x40, .dispAddr, 0, false⟩, ⟨0x41, .dispAddr, 1, false⟩, ⟨0x42, .dispAddr, 2, true⟩,
   ⟨0x43, .dispPitch, 0, false⟩, ⟨0x44, .dispPitch, 1, true⟩, ⟨0x51, .dispMode, 0, true⟩, ⟨0x54, .clkSel, 0, true⟩,
   ⟨0x60, .dacAndSpriteIndex, 0, false⟩, ⟨0x61, .spriteIndexHigh, 0, false⟩,
   ⟨0x65, .paletteData, 0, false⟩, ⟨0x6A, .spriteData, 0, false⟩]

/-- The port table of the default `EXT_REG_MAP` (R341, D22). -/
def Config.extPorts : List PortEntry :=
  [⟨0x0, .opMode⟩, ⟨0x1, .apertureCntl⟩, ⟨0x4, .port4⟩, ⟨0x8, .apIdx⟩, ⟨0x9, .accessMode⟩, ⟨0xA, .regIdx⟩,
   ⟨0xB, .data⟩, ⟨0xC, .data⟩, ⟨0xD, .data⟩, ⟨0xE, .data⟩, ⟨0xF, .data⟩]

/-- The default `EXT_REG_MAP` (D22). -/
def Config.extRegMap : ExtRegMap := { ports := Config.extPorts, subs := Config.extSubs }

end Sys2Proof
end

