-- ==== Sys2Proof/Machine/Sparse.lean ====
section
/-! DEFINITION. Stores of data by address: a list of (address, value) pairs, addresses strictly rising. No
entry stands for what an unlisted address stands for anyway, so that equal stores are equal lists. -/

namespace Sys2Proof.Machine

/-- The value listed at address `a`, if one is. -/
def Sparse.find {α : Type} (a : Nat) : List (Nat × α) → Option α
  | [] => none
  | (b, v) :: m => if b = a then some v else Sparse.find a m

/-- List `v` at address `a`, in place. -/
def Sparse.insert {α : Type} (a : Nat) (v : α) : List (Nat × α) → List (Nat × α)
  | [] => [(a, v)]
  | (b, w) :: m =>
    if a < b then (a, v) :: (b, w) :: m
    else if a = b then (a, v) :: m
    else (b, w) :: Sparse.insert a v m

/-- Unlist address `a`. -/
def Sparse.erase {α : Type} (a : Nat) : List (Nat × α) → List (Nat × α)
  | [] => []
  | (b, w) :: m => if a = b then m else (b, w) :: Sparse.erase a m

/-- The addresses rise strictly, all from `lo` on. -/
def Sparse.risingFrom {α : Type} (lo : Nat) : List (Nat × α) → Bool
  | [] => true
  | (b, _) :: m => decide (lo ≤ b) && Sparse.risingFrom (b + 1) m

/-! ## Memories: an unlisted address holds no value, and what reads it supplies a free value (log 5, log 6, log 21) -/

/-- The memory with `v` at address `a`, in canonical form. -/
def Memory.write {α : Type} (m : List (Nat × α)) (a : Nat) (v : α) : List (Nat × α) := Sparse.insert a v m

/-- The canonical form: addresses strictly rising. A listed value is never what an unlisted address holds, which is none. -/
def Memory.wf {α : Type} (m : List (Nat × α)) : Bool := Sparse.risingFrom 0 m

/-- Every listed address lies below `bound`. -/
def Memory.below {α : Type} (m : List (Nat × α)) (bound : Nat) : Bool := m.all (fun c => decide (c.1 < bound))

/-! ## Counters: an unlisted counter is 0, which is the value after attach (R22) -/

/-- What an unlisted counter reads as (R22). -/
def Counters.unlisted : Byte := 0

/-- A counter. -/
def Counters.read (m : List Host.Cell) (a : Nat) : Byte := (Sparse.find a m).getD Counters.unlisted

/-- The counters with number `a` set to `v`, in canonical form. -/
def Counters.write (m : List Host.Cell) (a : Nat) (v : Byte) : List Host.Cell :=
  if v = Counters.unlisted then Sparse.erase a m else Sparse.insert a v m

/-- The canonical form: numbers strictly rising, no entry equal to what an unlisted counter reads as. -/
def Counters.wf (m : List Host.Cell) : Bool :=
  Sparse.risingFrom 0 m && m.all (fun c => decide (c.2 ≠ Counters.unlisted))

end Sys2Proof.Machine
end

