-- ==== Sys2Proof/Machine/Bits.lean ====
section
/-! DEFINITION. The spec's bit and byte notation (R8, R9): sign extension, truncation, byte lanes, little-endian
composition, byte swap. -/

namespace Sys2Proof.Machine

/-- `sext_13` (R9) of a stored 16-bit coordinate: bits 15:13 are ignored (R112). -/
def sext13 (v : Half) : Int := (v.extractLsb' 0 13).toInt

/-- `sext_14` (R9) of a stored 16-bit Bresenham term: bits 15:14 are ignored (R112). -/
def sext14 (v : Half) : Int := (v.extractLsb' 0 14).toInt

/-- `sext_16` (R9). -/
def sext16 (v : Half) : Int := v.toInt

/-- `trunc_16` (R9) of an integer. -/
def trunc16 (v : Int) : Half := BitVec.ofInt 16 v

/-- `trunc_32` (R9) of an integer. -/
def trunc32 (v : Int) : Word := BitVec.ofInt 32 v

/-- Byte lane `k` of a word: bits 8k+7 down to 8k (R8). -/
def byteLane (w : Word) (k : Nat) : Byte := w.extractLsb' (8 * k) 8

/-- `w` with its byte lane `k` replaced by `b` and every other bit kept (R113). -/
def setByteLane (w : Word) (k : Nat) (b : Byte) : Word :=
  (w &&& ~~~((0xFF#32) <<< (8 * k))) ||| (b.setWidth 32 <<< (8 * k))

/-- The low `n` byte lanes of a word, lowest first (R71). -/
def bytesOf (w : Word) (n : Nat) : List Byte := (List.range n).map (byteLane w)

/-- The little-endian value of a list of bytes, lowest first (R71). -/
def leValue : List Byte → Word
  | [] => 0
  | b :: bs => b.setWidth 32 ||| (leValue bs <<< 8)

/-- `bswap16` (R9). -/
def bswap16 (w : Half) : Half := w.extractLsb' 0 8 ++ w.extractLsb' 8 8

/-- The low `8 * n` bits of a word. -/
def lowBytes (w : Word) (n : Nat) : Word := w &&& BitVec.ofNat 32 (2 ^ (8 * n) - 1)

/-- The word whose bytes, lowest first, are the four given. -/
def word4 (b0 b1 b2 b3 : Byte) : Word := b3 ++ b2 ++ b1 ++ b0

/-- The 16-bit value whose bytes, lowest first, are the two given. -/
def half2 (b0 b1 : Byte) : Half := b1 ++ b0

end Sys2Proof.Machine
end

