-- ==== Sys2Proof/Syntax.lean ====
section
/-! DEFINITION. The abstract syntax: one constructor per row of the opcode table (195), in the table's order.

A row is a host event (format EVENT) or a coded operation the core performs inside an event; its operands are those the
row's rule gives it (log 1). -/

namespace Sys2Proof

/-- The length tag of an access: 1, 2 or 4 bytes (R73, R253). -/
inductive Len where
  | b1 | b2 | b4
  deriving DecidableEq, Repr

/-- The number of bytes of a length tag. -/
def Len.bytes : Len → Nat
  | .b1 => 1
  | .b2 => 2
  | .b4 => 4

/-- An access to an accelerator register, at the register's own offset (R252). -/
inductive RegAccess where
  | read (len : Len)
  | write (len : Len) (val : Word)
  deriving DecidableEq, Repr

/-- An access to an extended port or a sub-register (R341, R343, R351). -/
inductive ByteAccess where
  | read
  | write (val : Byte)
  deriving DecidableEq, Repr

/-- An access to pixel `(x, y)` of map `m` (R130); coordinates are signed, given as 32-bit two's complement. -/
inductive PixAccess where
  | read (m : BitVec 2) (x y : Word)
  | write (m : BitVec 2) (x y value : Word)
  deriving DecidableEq, Repr

/-- The rows of the opcode table. -/
inductive Instr where
  -- Host events (R100).
  | wr (off : BitVec 7) (len : Len) (val : Word)
  | rd (off : BitVec 7) (len : Len)
  | cmd (word : Word)
  | ssv (word : Word)
  | out (port : BitVec 4) (val : Byte)
  | inp (port : BitVec 4)
  | apw (addr : Word) (len : Len) (val : Word)
  | apr (addr : Word) (len : Len)
  | mmr (off : BitVec 13)
  | tick
  -- Command words by opcode (R103); `rest` is the word without its opcode, bits 27:0 in the default layout (R102).
  | opRsvd0 (rest : BitVec 28)
  | opRsvd1 (rest : BitVec 28)
  | opRsvd2 (rest : BitVec 28)
  | opLineRead (rest : BitVec 28)
  | opShortStroke (rest : BitVec 28)
  | opLineDraw (rest : BitVec 28)
  | opRsvd6 (rest : BitVec 28)
  | opRsvd7 (rest : BitVec 28)
  | opBitblt (rest : BitVec 28)
  | opBitbltInv (rest : BitVec 28)
  | opAreaFill (rest : BitVec 28)
  | opRsvdB (rest : BitVec 28)
  | opRsvdC (rest : BitVec 28)
  | opRsvdD (rest : BitVec 28)
  | opRsvdE (rest : BitVec 28)
  | opRsvdF (rest : BitVec 28)
  -- Draw-mode codes (R105, R182).
  | dmEvery (firstCol : Bool) (firstRow : Bool)
  | dmNotFirstCol (firstCol : Bool) (firstRow : Bool)
  | dmNotFirstRow (firstCol : Bool) (firstRow : Bool)
  | dm3 (firstCol : Bool) (firstRow : Bool)
  -- Mask-mode codes (R106, R183); operands: the destination coordinates.
  | clipOff (dx : Word) (dy : Word)
  | clipOn1 (dx : Word) (dy : Word)
  | clipOn2 (dx : Word) (dy : Word)
  | clipOn3 (dx : Word) (dy : Word)
  -- Octant codes (R104).
  | oct0
  | oct1
  | oct2
  | oct3
  | oct4
  | oct5
  | oct6
  | oct7
  -- Foreground source selects (R117, R185); operands: source selector and source coordinates.
  | fgSrcColor0 (srcSel : BitVec 4) (sx : Word) (sy : Word)
  | fgSrcColor1 (srcSel : BitVec 4) (sx : Word) (sy : Word)
  | fgSrcMap (srcSel : BitVec 4) (sx : Word) (sy : Word)
  | fgSrcColor3 (srcSel : BitVec 4) (sx : Word) (sy : Word)
  -- Background source selects (R117, R185).
  | bgSrcColor0 (srcSel : BitVec 4) (sx : Word) (sy : Word)
  | bgSrcColor1 (srcSel : BitVec 4) (sx : Word) (sy : Word)
  | bgSrcMap (srcSel : BitVec 4) (sx : Word) (sy : Word)
  | bgSrcColor3 (srcSel : BitVec 4) (sx : Word) (sy : Word)
  -- Pattern selectors (R107, R202).
  | patNone
  | patMap (sel : BitVec 4) (px : Word) (py : Word)
  -- Source and destination map selectors (R107).
  | srcMapSel (sel : BitVec 4)
  | dstMapSel (sel : BitVec 4)
  -- Mix codes (R109, R151 to R173); operands: destination and source.
  | ropClear (d : Word) (s : Word)
  | ropAnd (d : Word) (s : Word)
  | ropAndNot (d : Word) (s : Word)
  | ropSrc (d : Word) (s : Word)
  | ropNotAnd (d : Word) (s : Word)
  | ropNop (d : Word) (s : Word)
  | ropXor (d : Word) (s : Word)
  | ropOr (d : Word) (s : Word)
  | ropNor (d : Word) (s : Word)
  | ropXnor (d : Word) (s : Word)
  | ropNotDest (d : Word) (s : Word)
  | ropOrNot (d : Word) (s : Word)
  | ropNotSrc (d : Word) (s : Word)
  | ropNotOrDest (d : Word) (s : Word)
  | ropNand (d : Word) (s : Word)
  | ropSet (d : Word) (s : Word)
  | ropMax (d : Word) (s : Word)
  | ropMin (d : Word) (s : Word)
  | ropAddSat (d : Word) (s : Word)
  | ropSubSatDs (d : Word) (s : Word)
  | ropSubSatSd (d : Word) (s : Word)
  | ropAvg (d : Word) (s : Word)
  | ropMixUndef16 (d : Word) (s : Word)
  | ropMixUndef17 (d : Word) (s : Word)
  | ropMixUndef18 (d : Word) (s : Word)
  | ropMixUndef19 (d : Word) (s : Word)
  | ropMixUndef1a (d : Word) (s : Word)
  | ropMixUndef1b (d : Word) (s : Word)
  | ropMixUndef1c (d : Word) (s : Word)
  | ropMixUndef1d (d : Word) (s : Word)
  | ropMixUndef1e (d : Word) (s : Word)
  | ropMixUndef1f (d : Word) (s : Word)
  -- Colour-compare codes (R108, R184); operand: the destination pixel.
  | ccTrue (dest : Word)
  | ccGt (dest : Word)
  | ccEq (dest : Word)
  | ccLt (dest : Word)
  | ccX4 (dest : Word)
  | ccGe (dest : Word)
  | ccNe (dest : Word)
  | ccLe (dest : Word)
  -- Stroke bytes by direction (R110, R118); operands: draw gate and length.
  | strokeDir0 (draw : Bool) (len : BitVec 4)
  | strokeDir1 (draw : Bool) (len : BitVec 4)
  | strokeDir2 (draw : Bool) (len : BitVec 4)
  | strokeDir3 (draw : Bool) (len : BitVec 4)
  | strokeDir4 (draw : Bool) (len : BitVec 4)
  | strokeDir5 (draw : Bool) (len : BitVec 4)
  | strokeDir6 (draw : Bool) (len : BitVec 4)
  | strokeDir7 (draw : Bool) (len : BitVec 4)
  -- Pixel formats (R111, R134 to R139); `packed` is format bit 3.
  | pf1 (packed : Bool) (acc : PixAccess)
  | pfRsvd1 (packed : Bool) (acc : PixAccess)
  | pfRsvd2 (packed : Bool) (acc : PixAccess)
  | pf8 (packed : Bool) (acc : PixAccess)
  | pf16 (packed : Bool) (acc : PixAccess)
  | pfRsvd5 (packed : Bool) (acc : PixAccess)
  | pfRsvd6 (packed : Bool) (acc : PixAccess)
  | pfRsvd7 (packed : Bool) (acc : PixAccess)
  -- Accelerator registers (R252).
  | accPxMapIdx (acc : RegAccess)
  | accMapBase (acc : RegAccess)
  | accMapWidth (acc : RegAccess)
  | accMapHeight (acc : RegAccess)
  | accMapFormat (acc : RegAccess)
  | accBresErrTerm (acc : RegAccess)
  | accBresK1 (acc : RegAccess)
  | accBresK2 (acc : RegAccess)
  | accShortStroke (acc : RegAccess)
  | accFrgdMix (acc : RegAccess)
  | accBkgdMix (acc : RegAccess)
  | accCcCond (acc : RegAccess)
  | accColorCmp (acc : RegAccess)
  | accPlaneMask (acc : RegAccess)
  | accFrgdColor (acc : RegAccess)
  | accBkgdColor (acc : RegAccess)
  | accBltWidth (acc : RegAccess)
  | accBltHeight (acc : RegAccess)
  | accMaskMapOriginXOff (acc : RegAccess)
  | accMaskMapOriginYOff (acc : RegAccess)
  | accSrcMapX (acc : RegAccess)
  | accSrcMapY (acc : RegAccess)
  | accPatMapX (acc : RegAccess)
  | accPatMapY (acc : RegAccess)
  | accDstMapX (acc : RegAccess)
  | accDstMapY (acc : RegAccess)
  | accCommand (acc : RegAccess)
  -- Extended ports (R341).
  | portOpMode (acc : ByteAccess)
  | portApertureCntl (acc : ByteAccess)
  | portNone2 (acc : ByteAccess)
  | portNone3 (acc : ByteAccess)
  | portPort4 (acc : ByteAccess)
  | portNone5 (acc : ByteAccess)
  | portNone6 (acc : ByteAccess)
  | portNone7 (acc : ByteAccess)
  | portApIdx (acc : ByteAccess)
  | portAccessMode (acc : ByteAccess)
  | portRegIdx (acc : ByteAccess)
  | portDataB (acc : ByteAccess)
  | portDataC (acc : ByteAccess)
  | portDataD (acc : ByteAccess)
  | portDataE (acc : ByteAccess)
  | portDataF (acc : ByteAccess)
  -- Extended sub-registers (R343).
  | idx10 (acc : ByteAccess)
  | idx11 (acc : ByteAccess)
  | idx12 (acc : ByteAccess)
  | idx13 (acc : ByteAccess)
  | idx14 (acc : ByteAccess)
  | idx15 (acc : ByteAccess)
  | idx18 (acc : ByteAccess)
  | idx19 (acc : ByteAccess)
  | idx20 (acc : ByteAccess)
  | idx21 (acc : ByteAccess)
  | idx22 (acc : ByteAccess)
  | idx23 (acc : ByteAccess)
  | idx24 (acc : ByteAccess)
  | idx25 (acc : ByteAccess)
  | idx28 (acc : ByteAccess)
  | idx29 (acc : ByteAccess)
  | idx2c (acc : ByteAccess)
  | idx2d (acc : ByteAccess)
  | idx30 (acc : ByteAccess)
  | idx31 (acc : ByteAccess)
  | idx32 (acc : ByteAccess)
  | idx33 (acc : ByteAccess)
  | idx34 (acc : ByteAccess)
  | idx35 (acc : ByteAccess)
  | idx36 (acc : ByteAccess)
  | idx38 (acc : ByteAccess)
  | idx39 (acc : ByteAccess)
  | idx3a (acc : ByteAccess)
  | idx3b (acc : ByteAccess)
  | idx3c (acc : ByteAccess)
  | idx3d (acc : ByteAccess)
  | idx40 (acc : ByteAccess)
  | idx41 (acc : ByteAccess)
  | idx42 (acc : ByteAccess)
  | idx43 (acc : ByteAccess)
  | idx44 (acc : ByteAccess)
  | idx51 (acc : ByteAccess)
  | idx54 (acc : ByteAccess)
  | idx60 (acc : ByteAccess)
  | idx61 (acc : ByteAccess)
  | idx65 (acc : ByteAccess)
  | idx6a (acc : ByteAccess)
  deriving DecidableEq, Repr

end Sys2Proof
end

