-- ==== Sys2Proof/WellFormed.lean ====
section
/-! DEFINITION. Which terms stand for an encodable row: a written value fits its length tag (R100, R253), a boot ROM
read lies below 0x1800 (R349), and the selector of `PAT_MAP` is not 8 (R107). Every other operand range is in its type. -/

namespace Sys2Proof

/-- The value fits `8 * len` bits (R100). -/
def fitsLen (len : Len) (val : Word) : Bool := decide (val.toNat < 2 ^ (8 * len.bytes))

/-- An access's value fits its length. -/
def RegAccess.wellFormed : RegAccess → Bool
  | .read _ => true
  | .write len val => fitsLen len val

/-- The well-formed rows. -/
def Instr.wellFormed : Instr → Bool
  | .wr _ len val => fitsLen len val
  | .apw _ len val => fitsLen len val
  | .mmr off => decide (off.toNat < 0x1800)
  | .patMap sel _ _ => decide (sel ≠ 8)
  | .accPxMapIdx acc => acc.wellFormed
  | .accMapBase acc => acc.wellFormed
  | .accMapWidth acc => acc.wellFormed
  | .accMapHeight acc => acc.wellFormed
  | .accMapFormat acc => acc.wellFormed
  | .accBresErrTerm acc => acc.wellFormed
  | .accBresK1 acc => acc.wellFormed
  | .accBresK2 acc => acc.wellFormed
  | .accShortStroke acc => acc.wellFormed
  | .accFrgdMix acc => acc.wellFormed
  | .accBkgdMix acc => acc.wellFormed
  | .accCcCond acc => acc.wellFormed
  | .accColorCmp acc => acc.wellFormed
  | .accPlaneMask acc => acc.wellFormed
  | .accFrgdColor acc => acc.wellFormed
  | .accBkgdColor acc => acc.wellFormed
  | .accBltWidth acc => acc.wellFormed
  | .accBltHeight acc => acc.wellFormed
  | .accMaskMapOriginXOff acc => acc.wellFormed
  | .accMaskMapOriginYOff acc => acc.wellFormed
  | .accSrcMapX acc => acc.wellFormed
  | .accSrcMapY acc => acc.wellFormed
  | .accPatMapX acc => acc.wellFormed
  | .accPatMapY acc => acc.wellFormed
  | .accDstMapX acc => acc.wellFormed
  | .accDstMapY acc => acc.wellFormed
  | .accCommand acc => acc.wellFormed
  | .rd _ _ => true
  | .cmd _ => true
  | .ssv _ => true
  | .out _ _ => true
  | .inp _ => true
  | .apr _ _ => true
  | .tick => true
  | .opRsvd0 _ => true
  | .opRsvd1 _ => true
  | .opRsvd2 _ => true
  | .opLineRead _ => true
  | .opShortStroke _ => true
  | .opLineDraw _ => true
  | .opRsvd6 _ => true
  | .opRsvd7 _ => true
  | .opBitblt _ => true
  | .opBitbltInv _ => true
  | .opAreaFill _ => true
  | .opRsvdB _ => true
  | .opRsvdC _ => true
  | .opRsvdD _ => true
  | .opRsvdE _ => true
  | .opRsvdF _ => true
  | .dmEvery _ _ => true
  | .dmNotFirstCol _ _ => true
  | .dmNotFirstRow _ _ => true
  | .dm3 _ _ => true
  | .clipOff _ _ => true
  | .clipOn1 _ _ => true
  | .clipOn2 _ _ => true
  | .clipOn3 _ _ => true
  | .oct0 => true
  | .oct1 => true
  | .oct2 => true
  | .oct3 => true
  | .oct4 => true
  | .oct5 => true
  | .oct6 => true
  | .oct7 => true
  | .fgSrcColor0 _ _ _ => true
  | .fgSrcColor1 _ _ _ => true
  | .fgSrcMap _ _ _ => true
  | .fgSrcColor3 _ _ _ => true
  | .bgSrcColor0 _ _ _ => true
  | .bgSrcColor1 _ _ _ => true
  | .bgSrcMap _ _ _ => true
  | .bgSrcColor3 _ _ _ => true
  | .patNone => true
  | .srcMapSel _ => true
  | .dstMapSel _ => true
  | .ropClear _ _ => true
  | .ropAnd _ _ => true
  | .ropAndNot _ _ => true
  | .ropSrc _ _ => true
  | .ropNotAnd _ _ => true
  | .ropNop _ _ => true
  | .ropXor _ _ => true
  | .ropOr _ _ => true
  | .ropNor _ _ => true
  | .ropXnor _ _ => true
  | .ropNotDest _ _ => true
  | .ropOrNot _ _ => true
  | .ropNotSrc _ _ => true
  | .ropNotOrDest _ _ => true
  | .ropNand _ _ => true
  | .ropSet _ _ => true
  | .ropMax _ _ => true
  | .ropMin _ _ => true
  | .ropAddSat _ _ => true
  | .ropSubSatDs _ _ => true
  | .ropSubSatSd _ _ => true
  | .ropAvg _ _ => true
  | .ropMixUndef16 _ _ => true
  | .ropMixUndef17 _ _ => true
  | .ropMixUndef18 _ _ => true
  | .ropMixUndef19 _ _ => true
  | .ropMixUndef1a _ _ => true
  | .ropMixUndef1b _ _ => true
  | .ropMixUndef1c _ _ => true
  | .ropMixUndef1d _ _ => true
  | .ropMixUndef1e _ _ => true
  | .ropMixUndef1f _ _ => true
  | .ccTrue _ => true
  | .ccGt _ => true
  | .ccEq _ => true
  | .ccLt _ => true
  | .ccX4 _ => true
  | .ccGe _ => true
  | .ccNe _ => true
  | .ccLe _ => true
  | .strokeDir0 _ _ => true
  | .strokeDir1 _ _ => true
  | .strokeDir2 _ _ => true
  | .strokeDir3 _ _ => true
  | .strokeDir4 _ _ => true
  | .strokeDir5 _ _ => true
  | .strokeDir6 _ _ => true
  | .strokeDir7 _ _ => true
  | .pf1 _ _ => true
  | .pfRsvd1 _ _ => true
  | .pfRsvd2 _ _ => true
  | .pf8 _ _ => true
  | .pf16 _ _ => true
  | .pfRsvd5 _ _ => true
  | .pfRsvd6 _ _ => true
  | .pfRsvd7 _ _ => true
  | .portOpMode _ => true
  | .portApertureCntl _ => true
  | .portNone2 _ => true
  | .portNone3 _ => true
  | .portPort4 _ => true
  | .portNone5 _ => true
  | .portNone6 _ => true
  | .portNone7 _ => true
  | .portApIdx _ => true
  | .portAccessMode _ => true
  | .portRegIdx _ => true
  | .portDataB _ => true
  | .portDataC _ => true
  | .portDataD _ => true
  | .portDataE _ => true
  | .portDataF _ => true
  | .idx10 _ => true
  | .idx11 _ => true
  | .idx12 _ => true
  | .idx13 _ => true
  | .idx14 _ => true
  | .idx15 _ => true
  | .idx18 _ => true
  | .idx19 _ => true
  | .idx20 _ => true
  | .idx21 _ => true
  | .idx22 _ => true
  | .idx23 _ => true
  | .idx24 _ => true
  | .idx25 _ => true
  | .idx28 _ => true
  | .idx29 _ => true
  | .idx2c _ => true
  | .idx2d _ => true
  | .idx30 _ => true
  | .idx31 _ => true
  | .idx32 _ => true
  | .idx33 _ => true
  | .idx34 _ => true
  | .idx35 _ => true
  | .idx36 _ => true
  | .idx38 _ => true
  | .idx39 _ => true
  | .idx3a _ => true
  | .idx3b _ => true
  | .idx3c _ => true
  | .idx3d _ => true
  | .idx40 _ => true
  | .idx41 _ => true
  | .idx42 _ => true
  | .idx43 _ => true
  | .idx44 _ => true
  | .idx51 _ => true
  | .idx54 _ => true
  | .idx60 _ => true
  | .idx61 _ => true
  | .idx65 _ => true
  | .idx6a _ => true

end Sys2Proof
end

