-- ==== Sys2Proof/Decode.lean ====
section
/-! DEFINITION. Decoding a host event's bytes, total and rejecting by name, and the encoder.

The spec gives the events no binary program image: "The encoding of an event is the tuple it stands for" (R119), and the
bytes of the table's rows overlap between formats (mix code 0, compare code 0 and pixel format 0 are the same byte). The
model frames an event as one tag byte that names the format, then the row's table word in little-endian byte order, then
its operands, words little-endian (log 2). The words after the tag are the spec's: the command word of R102, mix codes of
R109, compare codes of R108, stroke bytes of R110, format codes of R111, offsets of R252, ports of R341, indices of R343.
The numbers are those of the table, that is of the default layouts (D1, D20, D22): a row is told by them whatever layout
the configuration record holds, and its meaning follows the record (log 16, log 27, log 31). -/

namespace Sys2Proof

open Machine

/-- Why bytes stand for no event. -/
inductive DecodeError where
  /-- No byte at all. -/
  | empty
  /-- The first byte names no format. -/
  | unknownFormat (tag : Byte)
  /-- The bytes end before the format's do. -/
  | truncated (tag : Byte)
  /-- A length code other than 0, 1, 2 (for 1, 2, 4 bytes). -/
  | badLength (code : Byte)
  /-- A flag byte other than 0 and 1. -/
  | badFlag (b : Byte)
  /-- An access kind other than 0 (read) and 1 (write). -/
  | badAccess (kind : Byte)
  /-- An offset outside the accelerator register block (R250). -/
  | offsetOutsideBlock (off : Byte)
  /-- A value wider than its length tag (R100). -/
  | valueTooWide (val : Word)
  /-- A port outside the 16-port window (R341). -/
  | portOutsideWindow (port : Byte)
  /-- A map index above 3 (R30). -/
  | badMapIndex (b : Byte)
  /-- A memory-mapped offset at or above 0x1800 for the boot ROM read (R349). -/
  | offsetAboveRom (off : Half)
  /-- An offset that is no row of `ACCEL_REG_MAP` (R252). -/
  | noRegister (off : Byte)
  /-- An index that is no row of `EXT_REG_MAP` (R343). -/
  | noSubRegister (index : Byte)
  deriving DecidableEq, Repr

/-! ## Format tags -/

/-- The format tag of a row: its first byte (log 2). -/
def Instr.tag : Instr → Byte
  | .wr _ _ _ => 0x01
  | .rd _ _ => 0x02
  | .cmd _ => 0x03
  | .ssv _ => 0x04
  | .out _ _ => 0x05
  | .inp _ => 0x06
  | .apw _ _ _ => 0x07
  | .apr _ _ => 0x08
  | .mmr _ => 0x09
  | .tick => 0x0A
  | .opRsvd0 _ => 0x10
  | .opRsvd1 _ => 0x10
  | .opRsvd2 _ => 0x10
  | .opLineRead _ => 0x10
  | .opShortStroke _ => 0x10
  | .opLineDraw _ => 0x10
  | .opRsvd6 _ => 0x10
  | .opRsvd7 _ => 0x10
  | .opBitblt _ => 0x10
  | .opBitbltInv _ => 0x10
  | .opAreaFill _ => 0x10
  | .opRsvdB _ => 0x10
  | .opRsvdC _ => 0x10
  | .opRsvdD _ => 0x10
  | .opRsvdE _ => 0x10
  | .opRsvdF _ => 0x10
  | .dmEvery _ _ => 0x11
  | .dmNotFirstCol _ _ => 0x11
  | .dmNotFirstRow _ _ => 0x11
  | .dm3 _ _ => 0x11
  | .clipOff _ _ => 0x12
  | .clipOn1 _ _ => 0x12
  | .clipOn2 _ _ => 0x12
  | .clipOn3 _ _ => 0x12
  | .oct0 => 0x13
  | .oct1 => 0x13
  | .oct2 => 0x13
  | .oct3 => 0x13
  | .oct4 => 0x13
  | .oct5 => 0x13
  | .oct6 => 0x13
  | .oct7 => 0x13
  | .fgSrcColor0 _ _ _ => 0x14
  | .fgSrcColor1 _ _ _ => 0x14
  | .fgSrcMap _ _ _ => 0x14
  | .fgSrcColor3 _ _ _ => 0x14
  | .bgSrcColor0 _ _ _ => 0x15
  | .bgSrcColor1 _ _ _ => 0x15
  | .bgSrcMap _ _ _ => 0x15
  | .bgSrcColor3 _ _ _ => 0x15
  | .patNone => 0x16
  | .patMap _ _ _ => 0x16
  | .srcMapSel _ => 0x17
  | .dstMapSel _ => 0x18
  | .ropClear _ _ => 0x20
  | .ropAnd _ _ => 0x20
  | .ropAndNot _ _ => 0x20
  | .ropSrc _ _ => 0x20
  | .ropNotAnd _ _ => 0x20
  | .ropNop _ _ => 0x20
  | .ropXor _ _ => 0x20
  | .ropOr _ _ => 0x20
  | .ropNor _ _ => 0x20
  | .ropXnor _ _ => 0x20
  | .ropNotDest _ _ => 0x20
  | .ropOrNot _ _ => 0x20
  | .ropNotSrc _ _ => 0x20
  | .ropNotOrDest _ _ => 0x20
  | .ropNand _ _ => 0x20
  | .ropSet _ _ => 0x20
  | .ropMax _ _ => 0x20
  | .ropMin _ _ => 0x20
  | .ropAddSat _ _ => 0x20
  | .ropSubSatDs _ _ => 0x20
  | .ropSubSatSd _ _ => 0x20
  | .ropAvg _ _ => 0x20
  | .ropMixUndef16 _ _ => 0x20
  | .ropMixUndef17 _ _ => 0x20
  | .ropMixUndef18 _ _ => 0x20
  | .ropMixUndef19 _ _ => 0x20
  | .ropMixUndef1a _ _ => 0x20
  | .ropMixUndef1b _ _ => 0x20
  | .ropMixUndef1c _ _ => 0x20
  | .ropMixUndef1d _ _ => 0x20
  | .ropMixUndef1e _ _ => 0x20
  | .ropMixUndef1f _ _ => 0x20
  | .ccTrue _ => 0x21
  | .ccGt _ => 0x21
  | .ccEq _ => 0x21
  | .ccLt _ => 0x21
  | .ccX4 _ => 0x21
  | .ccGe _ => 0x21
  | .ccNe _ => 0x21
  | .ccLe _ => 0x21
  | .strokeDir0 _ _ => 0x22
  | .strokeDir1 _ _ => 0x22
  | .strokeDir2 _ _ => 0x22
  | .strokeDir3 _ _ => 0x22
  | .strokeDir4 _ _ => 0x22
  | .strokeDir5 _ _ => 0x22
  | .strokeDir6 _ _ => 0x22
  | .strokeDir7 _ _ => 0x22
  | .pf1 _ _ => 0x23
  | .pfRsvd1 _ _ => 0x23
  | .pfRsvd2 _ _ => 0x23
  | .pf8 _ _ => 0x23
  | .pf16 _ _ => 0x23
  | .pfRsvd5 _ _ => 0x23
  | .pfRsvd6 _ _ => 0x23
  | .pfRsvd7 _ _ => 0x23
  | .accPxMapIdx _ => 0x30
  | .accMapBase _ => 0x30
  | .accMapWidth _ => 0x30
  | .accMapHeight _ => 0x30
  | .accMapFormat _ => 0x30
  | .accBresErrTerm _ => 0x30
  | .accBresK1 _ => 0x30
  | .accBresK2 _ => 0x30
  | .accShortStroke _ => 0x30
  | .accFrgdMix _ => 0x30
  | .accBkgdMix _ => 0x30
  | .accCcCond _ => 0x30
  | .accColorCmp _ => 0x30
  | .accPlaneMask _ => 0x30
  | .accFrgdColor _ => 0x30
  | .accBkgdColor _ => 0x30
  | .accBltWidth _ => 0x30
  | .accBltHeight _ => 0x30
  | .accMaskMapOriginXOff _ => 0x30
  | .accMaskMapOriginYOff _ => 0x30
  | .accSrcMapX _ => 0x30
  | .accSrcMapY _ => 0x30
  | .accPatMapX _ => 0x30
  | .accPatMapY _ => 0x30
  | .accDstMapX _ => 0x30
  | .accDstMapY _ => 0x30
  | .accCommand _ => 0x30
  | .portOpMode _ => 0x31
  | .portApertureCntl _ => 0x31
  | .portNone2 _ => 0x31
  | .portNone3 _ => 0x31
  | .portPort4 _ => 0x31
  | .portNone5 _ => 0x31
  | .portNone6 _ => 0x31
  | .portNone7 _ => 0x31
  | .portApIdx _ => 0x31
  | .portAccessMode _ => 0x31
  | .portRegIdx _ => 0x31
  | .portDataB _ => 0x31
  | .portDataC _ => 0x31
  | .portDataD _ => 0x31
  | .portDataE _ => 0x31
  | .portDataF _ => 0x31
  | .idx10 _ => 0x32
  | .idx11 _ => 0x32
  | .idx12 _ => 0x32
  | .idx13 _ => 0x32
  | .idx14 _ => 0x32
  | .idx15 _ => 0x32
  | .idx18 _ => 0x32
  | .idx19 _ => 0x32
  | .idx20 _ => 0x32
  | .idx21 _ => 0x32
  | .idx22 _ => 0x32
  | .idx23 _ => 0x32
  | .idx24 _ => 0x32
  | .idx25 _ => 0x32
  | .idx28 _ => 0x32
  | .idx29 _ => 0x32
  | .idx2c _ => 0x32
  | .idx2d _ => 0x32
  | .idx30 _ => 0x32
  | .idx31 _ => 0x32
  | .idx32 _ => 0x32
  | .idx33 _ => 0x32
  | .idx34 _ => 0x32
  | .idx35 _ => 0x32
  | .idx36 _ => 0x32
  | .idx38 _ => 0x32
  | .idx39 _ => 0x32
  | .idx3a _ => 0x32
  | .idx3b _ => 0x32
  | .idx3c _ => 0x32
  | .idx3d _ => 0x32
  | .idx40 _ => 0x32
  | .idx41 _ => 0x32
  | .idx42 _ => 0x32
  | .idx43 _ => 0x32
  | .idx44 _ => 0x32
  | .idx51 _ => 0x32
  | .idx54 _ => 0x32
  | .idx60 _ => 0x32
  | .idx61 _ => 0x32
  | .idx65 _ => 0x32
  | .idx6a _ => 0x32

/-! ## Operand bytes -/

/-- The four bytes of a word, lowest first. -/
def bytes4 (w : Word) : List Byte := [byteLane w 0, byteLane w 1, byteLane w 2, byteLane w 3]

/-- The code of a length tag: the base-2 logarithm of its bytes. -/
def Len.code : Len → Byte
  | .b1 => 0
  | .b2 => 1
  | .b4 => 2

/-- The length tag of a code. -/
def decodeLen (b : Byte) : Option Len :=
  match b.toNat with
  | 0 => some .b1
  | 1 => some .b2
  | 2 => some .b4
  | _ => none

/-- A flag as a byte. -/
def flagByte (b : Bool) : Byte := if b then 1 else 0

/-- A byte as a flag. -/
def decodeFlag (b : Byte) : Option Bool :=
  match b.toNat with
  | 0 => some false
  | 1 => some true
  | _ => none

/-- The bytes of a register access: kind, length, value. -/
def encodeRegAccess : RegAccess → List Byte
  | .read len => [0, len.code]
  | .write len val => [1, len.code] ++ bytes4 val

/-- The bytes of a byte access: kind, value. -/
def encodeByteAccess : ByteAccess → List Byte
  | .read => [0]
  | .write val => [1, val]

/-- The bytes of a pixel access: kind, map, coordinates, value. -/
def encodePixAccess : PixAccess → List Byte
  | .read m x y => [0, m.setWidth 8] ++ bytes4 x ++ bytes4 y
  | .write m x y v => [1, m.setWidth 8] ++ bytes4 x ++ bytes4 y ++ bytes4 v

/-- A register access and the bytes after it. -/
def decodeRegAccess (tag : Byte) : List Byte → Except DecodeError (RegAccess × List Byte)
  | kind :: l :: rest =>
    match decodeLen l with
    | none => .error (.badLength l)
    | some len =>
      match kind.toNat, rest with
      | 0, rest => .ok (.read len, rest)
      | 1, v0 :: v1 :: v2 :: v3 :: rest =>
        if fitsLen len (word4 v0 v1 v2 v3) then .ok (.write len (word4 v0 v1 v2 v3), rest)
        else .error (.valueTooWide (word4 v0 v1 v2 v3))
      | 1, _ => .error (.truncated tag)
      | _, _ => .error (.badAccess kind)
  | _ => .error (.truncated tag)

/-- A byte access and the bytes after it. -/
def decodeByteAccess (tag : Byte) : List Byte → Except DecodeError (ByteAccess × List Byte)
  | kind :: rest =>
    match kind.toNat, rest with
    | 0, rest => .ok (.read, rest)
    | 1, v :: rest => .ok (.write v, rest)
    | 1, [] => .error (.truncated tag)
    | _, _ => .error (.badAccess kind)
  | [] => .error (.truncated tag)

/-- A pixel access and the bytes after it. -/
def decodePixAccess (tag : Byte) : List Byte → Except DecodeError (PixAccess × List Byte)
  | kind :: m :: x0 :: x1 :: x2 :: x3 :: y0 :: y1 :: y2 :: y3 :: rest =>
    if m.toNat < 4 then
      match kind.toNat, rest with
      | 0, rest => .ok (.read (m.setWidth 2) (word4 x0 x1 x2 x3) (word4 y0 y1 y2 y3), rest)
      | 1, v0 :: v1 :: v2 :: v3 :: rest =>
        .ok (.write (m.setWidth 2) (word4 x0 x1 x2 x3) (word4 y0 y1 y2 y3) (word4 v0 v1 v2 v3), rest)
      | 1, _ => .error (.truncated tag)
      | _, _ => .error (.badAccess kind)
    else .error (.badMapIndex m)
  | _ => .error (.truncated tag)

/-! ## Rows by their table words

Each function below is the table's rows of one format: the bits outside a row's mask are not looked at. -/

/-- The row of an opcode, bits 31:28 of the command word (R103). -/
def opcodeRow (c : BitVec 4) (rest : BitVec 28) : Instr :=
  match c.toNat with
  | 0x0 => .opRsvd0 rest
  | 0x1 => .opRsvd1 rest
  | 0x2 => .opRsvd2 rest
  | 0x3 => .opLineRead rest
  | 0x4 => .opShortStroke rest
  | 0x5 => .opLineDraw rest
  | 0x6 => .opRsvd6 rest
  | 0x7 => .opRsvd7 rest
  | 0x8 => .opBitblt rest
  | 0x9 => .opBitbltInv rest
  | 0xA => .opAreaFill rest
  | 0xB => .opRsvdB rest
  | 0xC => .opRsvdC rest
  | 0xD => .opRsvdD rest
  | 0xE => .opRsvdE rest
  | _ => .opRsvdF rest

/-- The row of a draw mode, bits 5:4 (R105). -/
def drawModeRow (c : BitVec 2) (firstCol : Bool) (firstRow : Bool) : Instr :=
  match c.toNat with
  | 0x0 => .dmEvery firstCol firstRow
  | 0x1 => .dmNotFirstCol firstCol firstRow
  | 0x2 => .dmNotFirstRow firstCol firstRow
  | _ => .dm3 firstCol firstRow

/-- The row of a mask mode, bits 7:6 (R106). -/
def maskModeRow (c : BitVec 2) (dx : Word) (dy : Word) : Instr :=
  match c.toNat with
  | 0x0 => .clipOff dx dy
  | 0x1 => .clipOn1 dx dy
  | 0x2 => .clipOn2 dx dy
  | _ => .clipOn3 dx dy

/-- The row of an octant, bits 2:0 (R104). -/
def octantRow (c : BitVec 3) : Instr :=
  match c.toNat with
  | 0x0 => .oct0
  | 0x1 => .oct1
  | 0x2 => .oct2
  | 0x3 => .oct3
  | 0x4 => .oct4
  | 0x5 => .oct5
  | 0x6 => .oct6
  | _ => .oct7

/-- The row of a foreground source select, bits 25:24 (R117). -/
def fgSrcRow (c : BitVec 2) (srcSel : BitVec 4) (sx : Word) (sy : Word) : Instr :=
  match c.toNat with
  | 0x0 => .fgSrcColor0 srcSel sx sy
  | 0x1 => .fgSrcColor1 srcSel sx sy
  | 0x2 => .fgSrcMap srcSel sx sy
  | _ => .fgSrcColor3 srcSel sx sy

/-- The row of a background source select, bits 27:26 (R117). -/
def bgSrcRow (c : BitVec 2) (srcSel : BitVec 4) (sx : Word) (sy : Word) : Instr :=
  match c.toNat with
  | 0x0 => .bgSrcColor0 srcSel sx sy
  | 0x1 => .bgSrcColor1 srcSel sx sy
  | 0x2 => .bgSrcMap srcSel sx sy
  | _ => .bgSrcColor3 srcSel sx sy

/-- The row of a mix code, bits 4:0 of a mix register (R109). -/
def mixRow (c : BitVec 5) (d : Word) (s : Word) : Instr :=
  match c.toNat with
  | 0x0 => .ropClear d s
  | 0x1 => .ropAnd d s
  | 0x2 => .ropAndNot d s
  | 0x3 => .ropSrc d s
  | 0x4 => .ropNotAnd d s
  | 0x5 => .ropNop d s
  | 0x6 => .ropXor d s
  | 0x7 => .ropOr d s
  | 0x8 => .ropNor d s
  | 0x9 => .ropXnor d s
  | 0xA => .ropNotDest d s
  | 0xB => .ropOrNot d s
  | 0xC => .ropNotSrc d s
  | 0xD => .ropNotOrDest d s
  | 0xE => .ropNand d s
  | 0xF => .ropSet d s
  | 0x10 => .ropMax d s
  | 0x11 => .ropMin d s
  | 0x12 => .ropAddSat d s
  | 0x13 => .ropSubSatDs d s
  | 0x14 => .ropSubSatSd d s
  | 0x15 => .ropAvg d s
  | 0x16 => .ropMixUndef16 d s
  | 0x17 => .ropMixUndef17 d s
  | 0x18 => .ropMixUndef18 d s
  | 0x19 => .ropMixUndef19 d s
  | 0x1A => .ropMixUndef1a d s
  | 0x1B => .ropMixUndef1b d s
  | 0x1C => .ropMixUndef1c d s
  | 0x1D => .ropMixUndef1d d s
  | 0x1E => .ropMixUndef1e d s
  | _ => .ropMixUndef1f d s

/-- The row of a colour-compare code (R108). -/
def compareRow (c : BitVec 3) (dest : Word) : Instr :=
  match c.toNat with
  | 0x0 => .ccTrue dest
  | 0x1 => .ccGt dest
  | 0x2 => .ccEq dest
  | 0x3 => .ccLt dest
  | 0x4 => .ccX4 dest
  | 0x5 => .ccGe dest
  | 0x6 => .ccNe dest
  | _ => .ccLe dest

/-- The row of a stroke direction, bits 7:5 of a stroke byte (R118). -/
def strokeRow (c : BitVec 3) (draw : Bool) (len : BitVec 4) : Instr :=
  match c.toNat with
  | 0x0 => .strokeDir0 draw len
  | 0x1 => .strokeDir1 draw len
  | 0x2 => .strokeDir2 draw len
  | 0x3 => .strokeDir3 draw len
  | 0x4 => .strokeDir4 draw len
  | 0x5 => .strokeDir5 draw len
  | 0x6 => .strokeDir6 draw len
  | _ => .strokeDir7 draw len

/-- The row of a depth code, bits 2:0 of a format code (R111). -/
def formatRow (c : BitVec 3) (packed : Bool) (acc : PixAccess) : Instr :=
  match c.toNat with
  | 0x0 => .pf1 packed acc
  | 0x1 => .pfRsvd1 packed acc
  | 0x2 => .pfRsvd2 packed acc
  | 0x3 => .pf8 packed acc
  | 0x4 => .pf16 packed acc
  | 0x5 => .pfRsvd5 packed acc
  | 0x6 => .pfRsvd6 packed acc
  | _ => .pfRsvd7 packed acc

/-- The row of a port (R341). -/
def portRow (c : BitVec 4) (acc : ByteAccess) : Instr :=
  match c.toNat with
  | 0x0 => .portOpMode acc
  | 0x1 => .portApertureCntl acc
  | 0x2 => .portNone2 acc
  | 0x3 => .portNone3 acc
  | 0x4 => .portPort4 acc
  | 0x5 => .portNone5 acc
  | 0x6 => .portNone6 acc
  | 0x7 => .portNone7 acc
  | 0x8 => .portApIdx acc
  | 0x9 => .portAccessMode acc
  | 0xA => .portRegIdx acc
  | 0xB => .portDataB acc
  | 0xC => .portDataC acc
  | 0xD => .portDataD acc
  | 0xE => .portDataE acc
  | _ => .portDataF acc

/-- The row of a pattern selector, bits 15:12 (R107): 8 is `PAT_NONE`. -/
def patternRow (c : BitVec 4) (px py : Word) : Instr :=
  if c = 8 then .patNone else .patMap c px py

/-- The row of an accelerator register by its first offset (R252). -/
def registerRow (off : Byte) (acc : RegAccess) : Option Instr :=
  match off.toNat with
  | 0x12 => some (.accPxMapIdx acc)
  | 0x14 => some (.accMapBase acc)
  | 0x18 => some (.accMapWidth acc)
  | 0x1A => some (.accMapHeight acc)
  | 0x1C => some (.accMapFormat acc)
  | 0x20 => some (.accBresErrTerm acc)
  | 0x24 => some (.accBresK1 acc)
  | 0x28 => some (.accBresK2 acc)
  | 0x2C => some (.accShortStroke acc)
  | 0x48 => some (.accFrgdMix acc)
  | 0x49 => some (.accBkgdMix acc)
  | 0x4A => some (.accCcCond acc)
  | 0x4C => some (.accColorCmp acc)
  | 0x50 => some (.accPlaneMask acc)
  | 0x58 => some (.accFrgdColor acc)
  | 0x5C => some (.accBkgdColor acc)
  | 0x60 => some (.accBltWidth acc)
  | 0x62 => some (.accBltHeight acc)
  | 0x6C => some (.accMaskMapOriginXOff acc)
  | 0x6E => some (.accMaskMapOriginYOff acc)
  | 0x70 => some (.accSrcMapX acc)
  | 0x72 => some (.accSrcMapY acc)
  | 0x74 => some (.accPatMapX acc)
  | 0x76 => some (.accPatMapY acc)
  | 0x78 => some (.accDstMapX acc)
  | 0x7A => some (.accDstMapY acc)
  | 0x7C => some (.accCommand acc)
  | _ => none

/-- The row of a sub-register by its index (R343). -/
def subRegisterRow (i : Byte) (acc : ByteAccess) : Option Instr :=
  match i.toNat with
  | 0x10 => some (.idx10 acc)
  | 0x11 => some (.idx11 acc)
  | 0x12 => some (.idx12 acc)
  | 0x13 => some (.idx13 acc)
  | 0x14 => some (.idx14 acc)
  | 0x15 => some (.idx15 acc)
  | 0x18 => some (.idx18 acc)
  | 0x19 => some (.idx19 acc)
  | 0x20 => some (.idx20 acc)
  | 0x21 => some (.idx21 acc)
  | 0x22 => some (.idx22 acc)
  | 0x23 => some (.idx23 acc)
  | 0x24 => some (.idx24 acc)
  | 0x25 => some (.idx25 acc)
  | 0x28 => some (.idx28 acc)
  | 0x29 => some (.idx29 acc)
  | 0x2C => some (.idx2c acc)
  | 0x2D => some (.idx2d acc)
  | 0x30 => some (.idx30 acc)
  | 0x31 => some (.idx31 acc)
  | 0x32 => some (.idx32 acc)
  | 0x33 => some (.idx33 acc)
  | 0x34 => some (.idx34 acc)
  | 0x35 => some (.idx35 acc)
  | 0x36 => some (.idx36 acc)
  | 0x38 => some (.idx38 acc)
  | 0x39 => some (.idx39 acc)
  | 0x3A => some (.idx3a acc)
  | 0x3B => some (.idx3b acc)
  | 0x3C => some (.idx3c acc)
  | 0x3D => some (.idx3d acc)
  | 0x40 => some (.idx40 acc)
  | 0x41 => some (.idx41 acc)
  | 0x42 => some (.idx42 acc)
  | 0x43 => some (.idx43 acc)
  | 0x44 => some (.idx44 acc)
  | 0x51 => some (.idx51 acc)
  | 0x54 => some (.idx54 acc)
  | 0x60 => some (.idx60 acc)
  | 0x61 => some (.idx61 acc)
  | 0x65 => some (.idx65 acc)
  | 0x6A => some (.idx6a acc)
  | _ => none

/-! ## The decoder -/

/-- The operands of a format, and the bytes after them. -/
def decodeBody (tag : Byte) (bs : List Byte) : Except DecodeError (Instr × List Byte) :=
  match tag.toNat, bs with
  | 0x01, off :: l :: v0 :: v1 :: v2 :: v3 :: rest =>
    match decodeLen l with
    | none => .error (.badLength l)
    | some len =>
      if off.toNat < 0x80 then
        if fitsLen len (word4 v0 v1 v2 v3) then .ok (.wr (off.setWidth 7) len (word4 v0 v1 v2 v3), rest)
        else .error (.valueTooWide (word4 v0 v1 v2 v3))
      else .error (.offsetOutsideBlock off)
  | 0x02, off :: l :: rest =>
    match decodeLen l with
    | none => .error (.badLength l)
    | some len => if off.toNat < 0x80 then .ok (.rd (off.setWidth 7) len, rest) else .error (.offsetOutsideBlock off)
  | 0x03, b0 :: b1 :: b2 :: b3 :: rest => .ok (.cmd (word4 b0 b1 b2 b3), rest)
  | 0x04, b0 :: b1 :: b2 :: b3 :: rest => .ok (.ssv (word4 b0 b1 b2 b3), rest)
  | 0x05, port :: v :: rest =>
    if port.toNat < 16 then .ok (.out (port.setWidth 4) v, rest) else .error (.portOutsideWindow port)
  | 0x06, port :: rest =>
    if port.toNat < 16 then .ok (.inp (port.setWidth 4), rest) else .error (.portOutsideWindow port)
  | 0x07, a0 :: a1 :: a2 :: a3 :: l :: v0 :: v1 :: v2 :: v3 :: rest =>
    match decodeLen l with
    | none => .error (.badLength l)
    | some len =>
      if fitsLen len (word4 v0 v1 v2 v3) then .ok (.apw (word4 a0 a1 a2 a3) len (word4 v0 v1 v2 v3), rest)
      else .error (.valueTooWide (word4 v0 v1 v2 v3))
  | 0x08, a0 :: a1 :: a2 :: a3 :: l :: rest =>
    match decodeLen l with
    | none => .error (.badLength l)
    | some len => .ok (.apr (word4 a0 a1 a2 a3) len, rest)
  | 0x09, o0 :: o1 :: rest =>
    if (half2 o0 o1).toNat < 0x1800 then .ok (.mmr ((half2 o0 o1).setWidth 13), rest)
    else .error (.offsetAboveRom (half2 o0 o1))
  | 0x0A, rest => .ok (.tick, rest)
  | 0x10, b0 :: b1 :: b2 :: b3 :: rest =>
    .ok (opcodeRow ((word4 b0 b1 b2 b3).extractLsb' 28 4) ((word4 b0 b1 b2 b3).extractLsb' 0 28), rest)
  | 0x11, b0 :: b1 :: b2 :: b3 :: c :: r :: rest =>
    match decodeFlag c, decodeFlag r with
    | some fc, some fr => .ok (drawModeRow ((word4 b0 b1 b2 b3).extractLsb' 4 2) fc fr, rest)
    | none, _ => .error (.badFlag c)
    | _, none => .error (.badFlag r)
  | 0x12, b0 :: b1 :: b2 :: b3 :: x0 :: x1 :: x2 :: x3 :: y0 :: y1 :: y2 :: y3 :: rest =>
    .ok (maskModeRow ((word4 b0 b1 b2 b3).extractLsb' 6 2) (word4 x0 x1 x2 x3) (word4 y0 y1 y2 y3), rest)
  | 0x13, b0 :: b1 :: b2 :: b3 :: rest => .ok (octantRow ((word4 b0 b1 b2 b3).extractLsb' 0 3), rest)
  | 0x14, b0 :: b1 :: b2 :: b3 :: x0 :: x1 :: x2 :: x3 :: y0 :: y1 :: y2 :: y3 :: rest =>
    .ok (fgSrcRow ((word4 b0 b1 b2 b3).extractLsb' 24 2) ((word4 b0 b1 b2 b3).extractLsb' 20 4)
      (word4 x0 x1 x2 x3) (word4 y0 y1 y2 y3), rest)
  | 0x15, b0 :: b1 :: b2 :: b3 :: x0 :: x1 :: x2 :: x3 :: y0 :: y1 :: y2 :: y3 :: rest =>
    .ok (bgSrcRow ((word4 b0 b1 b2 b3).extractLsb' 26 2) ((word4 b0 b1 b2 b3).extractLsb' 20 4)
      (word4 x0 x1 x2 x3) (word4 y0 y1 y2 y3), rest)
  | 0x16, b0 :: b1 :: b2 :: b3 :: x0 :: x1 :: x2 :: x3 :: y0 :: y1 :: y2 :: y3 :: rest =>
    .ok (patternRow ((word4 b0 b1 b2 b3).extractLsb' 12 4) (word4 x0 x1 x2 x3) (word4 y0 y1 y2 y3), rest)
  | 0x17, b0 :: b1 :: b2 :: b3 :: rest => .ok (.srcMapSel ((word4 b0 b1 b2 b3).extractLsb' 20 4), rest)
  | 0x18, b0 :: b1 :: b2 :: b3 :: rest => .ok (.dstMapSel ((word4 b0 b1 b2 b3).extractLsb' 16 4), rest)
  | 0x20, c :: d0 :: d1 :: d2 :: d3 :: s0 :: s1 :: s2 :: s3 :: rest =>
    .ok (mixRow (c.extractLsb' 0 5) (word4 d0 d1 d2 d3) (word4 s0 s1 s2 s3), rest)
  | 0x21, c :: d0 :: d1 :: d2 :: d3 :: rest => .ok (compareRow (c.extractLsb' 0 3) (word4 d0 d1 d2 d3), rest)
  | 0x22, b :: rest => .ok (strokeRow (b.extractLsb' 5 3) (b.getLsbD 4) (b.extractLsb' 0 4), rest)
  | 0x23, c :: rest =>
    match decodePixAccess tag rest with
    | .ok (acc, rest) => .ok (formatRow (c.extractLsb' 0 3) (c.getLsbD 3) acc, rest)
    | .error e => .error e
  | 0x30, off :: rest =>
    match decodeRegAccess tag rest with
    | .ok (acc, rest) =>
      match registerRow off acc with
      | some i => .ok (i, rest)
      | none => .error (.noRegister off)
    | .error e => .error e
  | 0x31, port :: rest =>
    match decodeByteAccess tag rest with
    | .ok (acc, rest) => .ok (portRow (port.extractLsb' 0 4) acc, rest)
    | .error e => .error e
  | 0x32, i :: rest =>
    match decodeByteAccess tag rest with
    | .ok (acc, rest) =>
      match subRegisterRow i acc with
      | some j => .ok (j, rest)
      | none => .error (.noSubRegister i)
    | .error e => .error e
  | t, _ =>
    if t ∈ [1, 2, 3, 4, 5, 6, 7, 8, 9, 0x10, 0x11, 0x12, 0x13, 0x14, 0x15, 0x16, 0x17, 0x18, 0x20, 0x21, 0x22, 0x23,
      0x30, 0x31, 0x32] then .error (.truncated tag)
    else .error (.unknownFormat tag)

/-- The event a list of bytes begins with, and the bytes after it. -/
def decode : List Byte → Except DecodeError (Instr × List Byte)
  | [] => .error .empty
  | tag :: rest => decodeBody tag rest

/-! ## The encoder -/

/-- The bytes after the tag of a row. -/
def Instr.body : Instr → List Byte
  | .wr off len val => [off.setWidth 8, len.code] ++ bytes4 val
  | .rd off len => [off.setWidth 8, len.code]
  | .cmd word => bytes4 word
  | .ssv word => bytes4 word
  | .out port val => [port.setWidth 8, val]
  | .inp port => [port.setWidth 8]
  | .apw addr len val => bytes4 addr ++ [len.code] ++ bytes4 val
  | .apr addr len => bytes4 addr ++ [len.code]
  | .mmr off => [(off.setWidth 16).extractLsb' 0 8, (off.setWidth 16).extractLsb' 8 8]
  | .tick => []
  | .opRsvd0 rest => bytes4 (0x0#4 ++ rest)
  | .opRsvd1 rest => bytes4 (0x1#4 ++ rest)
  | .opRsvd2 rest => bytes4 (0x2#4 ++ rest)
  | .opLineRead rest => bytes4 (0x3#4 ++ rest)
  | .opShortStroke rest => bytes4 (0x4#4 ++ rest)
  | .opLineDraw rest => bytes4 (0x5#4 ++ rest)
  | .opRsvd6 rest => bytes4 (0x6#4 ++ rest)
  | .opRsvd7 rest => bytes4 (0x7#4 ++ rest)
  | .opBitblt rest => bytes4 (0x8#4 ++ rest)
  | .opBitbltInv rest => bytes4 (0x9#4 ++ rest)
  | .opAreaFill rest => bytes4 (0xA#4 ++ rest)
  | .opRsvdB rest => bytes4 (0xB#4 ++ rest)
  | .opRsvdC rest => bytes4 (0xC#4 ++ rest)
  | .opRsvdD rest => bytes4 (0xD#4 ++ rest)
  | .opRsvdE rest => bytes4 (0xE#4 ++ rest)
  | .opRsvdF rest => bytes4 (0xF#4 ++ rest)
  | .dmEvery firstCol firstRow => bytes4 0x00000000 ++ [flagByte firstCol, flagByte firstRow]
  | .dmNotFirstCol firstCol firstRow => bytes4 0x00000010 ++ [flagByte firstCol, flagByte firstRow]
  | .dmNotFirstRow firstCol firstRow => bytes4 0x00000020 ++ [flagByte firstCol, flagByte firstRow]
  | .dm3 firstCol firstRow => bytes4 0x00000030 ++ [flagByte firstCol, flagByte firstRow]
  | .clipOff dx dy => bytes4 0x00000000 ++ bytes4 dx ++ bytes4 dy
  | .clipOn1 dx dy => bytes4 0x00000040 ++ bytes4 dx ++ bytes4 dy
  | .clipOn2 dx dy => bytes4 0x00000080 ++ bytes4 dx ++ bytes4 dy
  | .clipOn3 dx dy => bytes4 0x000000C0 ++ bytes4 dx ++ bytes4 dy
  | .oct0 => bytes4 0x00000000
  | .oct1 => bytes4 0x00000001
  | .oct2 => bytes4 0x00000002
  | .oct3 => bytes4 0x00000003
  | .oct4 => bytes4 0x00000004
  | .oct5 => bytes4 0x00000005
  | .oct6 => bytes4 0x00000006
  | .oct7 => bytes4 0x00000007
  | .fgSrcColor0 srcSel sx sy => bytes4 (0x0#8 ++ srcSel ++ 0#20) ++ bytes4 sx ++ bytes4 sy
  | .fgSrcColor1 srcSel sx sy => bytes4 (0x1#8 ++ srcSel ++ 0#20) ++ bytes4 sx ++ bytes4 sy
  | .fgSrcMap srcSel sx sy => bytes4 (0x2#8 ++ srcSel ++ 0#20) ++ bytes4 sx ++ bytes4 sy
  | .fgSrcColor3 srcSel sx sy => bytes4 (0x3#8 ++ srcSel ++ 0#20) ++ bytes4 sx ++ bytes4 sy
  | .bgSrcColor0 srcSel sx sy => bytes4 (0x0#8 ++ srcSel ++ 0#20) ++ bytes4 sx ++ bytes4 sy
  | .bgSrcColor1 srcSel sx sy => bytes4 (0x4#8 ++ srcSel ++ 0#20) ++ bytes4 sx ++ bytes4 sy
  | .bgSrcMap srcSel sx sy => bytes4 (0x8#8 ++ srcSel ++ 0#20) ++ bytes4 sx ++ bytes4 sy
  | .bgSrcColor3 srcSel sx sy => bytes4 (0xC#8 ++ srcSel ++ 0#20) ++ bytes4 sx ++ bytes4 sy
  | .patNone => bytes4 0x00008000 ++ bytes4 0 ++ bytes4 0
  | .patMap sel px py => bytes4 (0#16 ++ sel ++ 0#12) ++ bytes4 px ++ bytes4 py
  | .srcMapSel sel => bytes4 (0#8 ++ sel ++ 0#20)
  | .dstMapSel sel => bytes4 (0#12 ++ sel ++ 0#16)
  | .ropClear d s => [0x00] ++ bytes4 d ++ bytes4 s
  | .ropAnd d s => [0x01] ++ bytes4 d ++ bytes4 s
  | .ropAndNot d s => [0x02] ++ bytes4 d ++ bytes4 s
  | .ropSrc d s => [0x03] ++ bytes4 d ++ bytes4 s
  | .ropNotAnd d s => [0x04] ++ bytes4 d ++ bytes4 s
  | .ropNop d s => [0x05] ++ bytes4 d ++ bytes4 s
  | .ropXor d s => [0x06] ++ bytes4 d ++ bytes4 s
  | .ropOr d s => [0x07] ++ bytes4 d ++ bytes4 s
  | .ropNor d s => [0x08] ++ bytes4 d ++ bytes4 s
  | .ropXnor d s => [0x09] ++ bytes4 d ++ bytes4 s
  | .ropNotDest d s => [0x0A] ++ bytes4 d ++ bytes4 s
  | .ropOrNot d s => [0x0B] ++ bytes4 d ++ bytes4 s
  | .ropNotSrc d s => [0x0C] ++ bytes4 d ++ bytes4 s
  | .ropNotOrDest d s => [0x0D] ++ bytes4 d ++ bytes4 s
  | .ropNand d s => [0x0E] ++ bytes4 d ++ bytes4 s
  | .ropSet d s => [0x0F] ++ bytes4 d ++ bytes4 s
  | .ropMax d s => [0x10] ++ bytes4 d ++ bytes4 s
  | .ropMin d s => [0x11] ++ bytes4 d ++ bytes4 s
  | .ropAddSat d s => [0x12] ++ bytes4 d ++ bytes4 s
  | .ropSubSatDs d s => [0x13] ++ bytes4 d ++ bytes4 s
  | .ropSubSatSd d s => [0x14] ++ bytes4 d ++ bytes4 s
  | .ropAvg d s => [0x15] ++ bytes4 d ++ bytes4 s
  | .ropMixUndef16 d s => [0x16] ++ bytes4 d ++ bytes4 s
  | .ropMixUndef17 d s => [0x17] ++ bytes4 d ++ bytes4 s
  | .ropMixUndef18 d s => [0x18] ++ bytes4 d ++ bytes4 s
  | .ropMixUndef19 d s => [0x19] ++ bytes4 d ++ bytes4 s
  | .ropMixUndef1a d s => [0x1A] ++ bytes4 d ++ bytes4 s
  | .ropMixUndef1b d s => [0x1B] ++ bytes4 d ++ bytes4 s
  | .ropMixUndef1c d s => [0x1C] ++ bytes4 d ++ bytes4 s
  | .ropMixUndef1d d s => [0x1D] ++ bytes4 d ++ bytes4 s
  | .ropMixUndef1e d s => [0x1E] ++ bytes4 d ++ bytes4 s
  | .ropMixUndef1f d s => [0x1F] ++ bytes4 d ++ bytes4 s
  | .ccTrue dest => [0x00] ++ bytes4 dest
  | .ccGt dest => [0x01] ++ bytes4 dest
  | .ccEq dest => [0x02] ++ bytes4 dest
  | .ccLt dest => [0x03] ++ bytes4 dest
  | .ccX4 dest => [0x04] ++ bytes4 dest
  | .ccGe dest => [0x05] ++ bytes4 dest
  | .ccNe dest => [0x06] ++ bytes4 dest
  | .ccLe dest => [0x07] ++ bytes4 dest
  | .strokeDir0 draw len => [0x0#3 ++ BitVec.ofBool draw ++ len]
  | .strokeDir1 draw len => [0x1#3 ++ BitVec.ofBool draw ++ len]
  | .strokeDir2 draw len => [0x2#3 ++ BitVec.ofBool draw ++ len]
  | .strokeDir3 draw len => [0x3#3 ++ BitVec.ofBool draw ++ len]
  | .strokeDir4 draw len => [0x4#3 ++ BitVec.ofBool draw ++ len]
  | .strokeDir5 draw len => [0x5#3 ++ BitVec.ofBool draw ++ len]
  | .strokeDir6 draw len => [0x6#3 ++ BitVec.ofBool draw ++ len]
  | .strokeDir7 draw len => [0x7#3 ++ BitVec.ofBool draw ++ len]
  | .pf1 packed acc => [0#4 ++ BitVec.ofBool packed ++ 0x0#3] ++ encodePixAccess acc
  | .pfRsvd1 packed acc => [0#4 ++ BitVec.ofBool packed ++ 0x1#3] ++ encodePixAccess acc
  | .pfRsvd2 packed acc => [0#4 ++ BitVec.ofBool packed ++ 0x2#3] ++ encodePixAccess acc
  | .pf8 packed acc => [0#4 ++ BitVec.ofBool packed ++ 0x3#3] ++ encodePixAccess acc
  | .pf16 packed acc => [0#4 ++ BitVec.ofBool packed ++ 0x4#3] ++ encodePixAccess acc
  | .pfRsvd5 packed acc => [0#4 ++ BitVec.ofBool packed ++ 0x5#3] ++ encodePixAccess acc
  | .pfRsvd6 packed acc => [0#4 ++ BitVec.ofBool packed ++ 0x6#3] ++ encodePixAccess acc
  | .pfRsvd7 packed acc => [0#4 ++ BitVec.ofBool packed ++ 0x7#3] ++ encodePixAccess acc
  | .accPxMapIdx acc => [0x12] ++ encodeRegAccess acc
  | .accMapBase acc => [0x14] ++ encodeRegAccess acc
  | .accMapWidth acc => [0x18] ++ encodeRegAccess acc
  | .accMapHeight acc => [0x1A] ++ encodeRegAccess acc
  | .accMapFormat acc => [0x1C] ++ encodeRegAccess acc
  | .accBresErrTerm acc => [0x20] ++ encodeRegAccess acc
  | .accBresK1 acc => [0x24] ++ encodeRegAccess acc
  | .accBresK2 acc => [0x28] ++ encodeRegAccess acc
  | .accShortStroke acc => [0x2C] ++ encodeRegAccess acc
  | .accFrgdMix acc => [0x48] ++ encodeRegAccess acc
  | .accBkgdMix acc => [0x49] ++ encodeRegAccess acc
  | .accCcCond acc => [0x4A] ++ encodeRegAccess acc
  | .accColorCmp acc => [0x4C] ++ encodeRegAccess acc
  | .accPlaneMask acc => [0x50] ++ encodeRegAccess acc
  | .accFrgdColor acc => [0x58] ++ encodeRegAccess acc
  | .accBkgdColor acc => [0x5C] ++ encodeRegAccess acc
  | .accBltWidth acc => [0x60] ++ encodeRegAccess acc
  | .accBltHeight acc => [0x62] ++ encodeRegAccess acc
  | .accMaskMapOriginXOff acc => [0x6C] ++ encodeRegAccess acc
  | .accMaskMapOriginYOff acc => [0x6E] ++ encodeRegAccess acc
  | .accSrcMapX acc => [0x70] ++ encodeRegAccess acc
  | .accSrcMapY acc => [0x72] ++ encodeRegAccess acc
  | .accPatMapX acc => [0x74] ++ encodeRegAccess acc
  | .accPatMapY acc => [0x76] ++ encodeRegAccess acc
  | .accDstMapX acc => [0x78] ++ encodeRegAccess acc
  | .accDstMapY acc => [0x7A] ++ encodeRegAccess acc
  | .accCommand acc => [0x7C] ++ encodeRegAccess acc
  | .portOpMode acc => [0x00] ++ encodeByteAccess acc
  | .portApertureCntl acc => [0x01] ++ encodeByteAccess acc
  | .portNone2 acc => [0x02] ++ encodeByteAccess acc
  | .portNone3 acc => [0x03] ++ encodeByteAccess acc
  | .portPort4 acc => [0x04] ++ encodeByteAccess acc
  | .portNone5 acc => [0x05] ++ encodeByteAccess acc
  | .portNone6 acc => [0x06] ++ encodeByteAccess acc
  | .portNone7 acc => [0x07] ++ encodeByteAccess acc
  | .portApIdx acc => [0x08] ++ encodeByteAccess acc
  | .portAccessMode acc => [0x09] ++ encodeByteAccess acc
  | .portRegIdx acc => [0x0A] ++ encodeByteAccess acc
  | .portDataB acc => [0x0B] ++ encodeByteAccess acc
  | .portDataC acc => [0x0C] ++ encodeByteAccess acc
  | .portDataD acc => [0x0D] ++ encodeByteAccess acc
  | .portDataE acc => [0x0E] ++ encodeByteAccess acc
  | .portDataF acc => [0x0F] ++ encodeByteAccess acc
  | .idx10 acc => [0x10] ++ encodeByteAccess acc
  | .idx11 acc => [0x11] ++ encodeByteAccess acc
  | .idx12 acc => [0x12] ++ encodeByteAccess acc
  | .idx13 acc => [0x13] ++ encodeByteAccess acc
  | .idx14 acc => [0x14] ++ encodeByteAccess acc
  | .idx15 acc => [0x15] ++ encodeByteAccess acc
  | .idx18 acc => [0x18] ++ encodeByteAccess acc
  | .idx19 acc => [0x19] ++ encodeByteAccess acc
  | .idx20 acc => [0x20] ++ encodeByteAccess acc
  | .idx21 acc => [0x21] ++ encodeByteAccess acc
  | .idx22 acc => [0x22] ++ encodeByteAccess acc
  | .idx23 acc => [0x23] ++ encodeByteAccess acc
  | .idx24 acc => [0x24] ++ encodeByteAccess acc
  | .idx25 acc => [0x25] ++ encodeByteAccess acc
  | .idx28 acc => [0x28] ++ encodeByteAccess acc
  | .idx29 acc => [0x29] ++ encodeByteAccess acc
  | .idx2c acc => [0x2C] ++ encodeByteAccess acc
  | .idx2d acc => [0x2D] ++ encodeByteAccess acc
  | .idx30 acc => [0x30] ++ encodeByteAccess acc
  | .idx31 acc => [0x31] ++ encodeByteAccess acc
  | .idx32 acc => [0x32] ++ encodeByteAccess acc
  | .idx33 acc => [0x33] ++ encodeByteAccess acc
  | .idx34 acc => [0x34] ++ encodeByteAccess acc
  | .idx35 acc => [0x35] ++ encodeByteAccess acc
  | .idx36 acc => [0x36] ++ encodeByteAccess acc
  | .idx38 acc => [0x38] ++ encodeByteAccess acc
  | .idx39 acc => [0x39] ++ encodeByteAccess acc
  | .idx3a acc => [0x3A] ++ encodeByteAccess acc
  | .idx3b acc => [0x3B] ++ encodeByteAccess acc
  | .idx3c acc => [0x3C] ++ encodeByteAccess acc
  | .idx3d acc => [0x3D] ++ encodeByteAccess acc
  | .idx40 acc => [0x40] ++ encodeByteAccess acc
  | .idx41 acc => [0x41] ++ encodeByteAccess acc
  | .idx42 acc => [0x42] ++ encodeByteAccess acc
  | .idx43 acc => [0x43] ++ encodeByteAccess acc
  | .idx44 acc => [0x44] ++ encodeByteAccess acc
  | .idx51 acc => [0x51] ++ encodeByteAccess acc
  | .idx54 acc => [0x54] ++ encodeByteAccess acc
  | .idx60 acc => [0x60] ++ encodeByteAccess acc
  | .idx61 acc => [0x61] ++ encodeByteAccess acc
  | .idx65 acc => [0x65] ++ encodeByteAccess acc
  | .idx6a acc => [0x6A] ++ encodeByteAccess acc

/-- The bytes of a row: its tag, its table word and its operands (log 2). -/
def encode (i : Instr) : List Byte := i.tag :: i.body

/-! ## A bare table word

A word of the opcode table without its format does not say which row it is. The order in which the model reads one is
fixed here (log 3): a word of more than 8 bits is a command word, and, where its opcode nibble is 0 and it is not the zero
word, the row of the lowest command field it sets; a byte is a mix code below 0x20, else a sub-register index, else a
stroke byte. -/

/-- The format tag a bare table word is read under. -/
def tagOfTableWord (nbits w : Nat) : Byte :=
  let c : Word := BitVec.ofNat 32 w
  if nbits ≤ 8 then
    if w < 0x20 then 0x20
    else if (subRegisterRow (BitVec.ofNat 8 w) .read).isSome then 0x32
    else 0x22
  else if nbits ≤ 16 then 0x16
  else if nbits ≤ 24 then if c.extractLsb' 20 4 = 0 then 0x18 else 0x17
  else if c = 0 then 0x10
  else if c.extractLsb' 28 4 ≠ 0 then 0x10
  else if c.extractLsb' 0 3 ≠ 0 then 0x13
  else if c.extractLsb' 4 2 ≠ 0 then 0x11
  else if c.extractLsb' 6 2 ≠ 0 then 0x12
  else if c.extractLsb' 12 4 ≠ 0 then 0x16
  else if c.extractLsb' 24 2 ≠ 0 then 0x14
  else if c.extractLsb' 26 2 ≠ 0 then 0x15
  else if c.extractLsb' 16 4 ≠ 0 then 0x18
  else if c.extractLsb' 20 4 ≠ 0 then 0x17
  else 0x10

/-- The framed bytes of a bare table word: tag, the word in little-endian byte order, operand bytes of zero. -/
def bytesOfTableWord (nbits w : Nat) : List Byte :=
  let c : Word := BitVec.ofNat 32 w
  tagOfTableWord nbits w ::
    ((if nbits ≤ 8 then [byteLane c 0] else bytes4 c) ++ [0, 0, 0, 0, 0, 0, 0, 0, 0, 0, 0, 0, 0, 0, 0, 0])

/-- The row the decoder reads from a bare table word (log 3). -/
def decodeTableWord (nbits w : Nat) : Option Instr :=
  match decode (bytesOfTableWord nbits w) with
  | .ok (i, _) => some i
  | .error _ => none

end Sys2Proof
end

