-- ==== Sys2Proof/Machine/State.lean ====
section
/-! DEFINITION. The device state (R20): plain data holding every piece of state the spec names, the host-side lists the
core reads and writes, and the reasons a step can stop. -/

namespace Sys2Proof.Machine

open Sys2Proof

/-! ## Parts of the state -/

/-- The accelerator registers (R26, R27, R30). -/
structure Accel where
  frgdColor : Word
  bkgdColor : Word
  planeMask : Word
  colorCmp : Word
  ccCond : BitVec 3
  frgdMix : Byte
  bkgdMix : Byte
  bresErrTerm : Half
  bresK1 : Half
  bresK2 : Half
  shortStroke : Word
  bltWidth : Half
  bltHeight : Half
  maskOriginX : Half
  maskOriginY : Half
  srcMapX : Half
  srcMapY : Half
  patMapX : Half
  patMapY : Half
  dstMapX : Half
  dstMapY : Half
  pxMapIdx : BitVec 2
  command : Word
  maps : MapBank
  deriving DecidableEq, Repr

/-- The live iteration state of a primitive (R29): signed coordinates and step counters. -/
structure Live where
  sx : Int
  sy : Int
  px : Int
  py : Int
  dx : Int
  dy : Int
  x : Int
  y : Int
  deriving DecidableEq, Repr

/-- Which component the next palette data write supplies (`dac_seq` 0, 1, 2; R34). -/
inductive DacSeq where
  | red | green | blue
  deriving DecidableEq, Repr

/-- The extended control registers (R31 to R36). -/
structure Ext where
  crtc : CrtcRegs
  apertureCntl : Byte
  accessMode : Byte
  apIdx : Byte
  regIdx : Byte
  port4 : Byte
  dacIndex : Byte
  dacSeq : DacSeq
  dacR : Byte
  dacG : Byte
  hwcX : Half
  hwcY : Half
  hwcXoff : BitVec 6
  hwcYoff : BitVec 6
  /-- `OUT_BITS` bits (R35, log 17). -/
  hwcColor0 : Word
  /-- `OUT_BITS` bits (R35, log 17). -/
  hwcColor1 : Word
  hwcEna : Bool
  spriteIdx : BitVec 10
  linearBase : Word
  baseAddr1mb : Word
  bankedMask : Half
  deriving DecidableEq, Repr

/-- The flags the host sets (R37, D32). -/
structure HostFlags where
  on : Bool
  linearEndianReverse : Bool
  cursorDataOn : Bool
  deriving DecidableEq, Repr

/-- The cursor registers as latched at the top of frame, and the sprite read pointer (R40). -/
structure CursorLatch where
  x : Half
  y : Half
  xoff : BitVec 6
  yoff : BitVec 6
  ena : Bool
  addr : BitVec 10
  deriving DecidableEq, Repr

/-- The raster state (R40). `linepos` is false where the next tick enters `ACTIVE_LINE`. -/
structure Raster where
  linepos : Bool
  vc : BitVec 11
  sc : BitVec 5
  displine : Half
  ma : Word
  maback : Word
  dispon : Bool
  oddeven : Bool
  firstline : Half
  lastline : Half
  firstlineDraw : Half
  lastlineDraw : Half
  fullchange : Byte
  changeframecount : Byte
  hwcursorOn : BitVec 7
  hwcursorOddeven : Bool
  latch : CursorLatch
  deriving DecidableEq, Repr

/-- The aperture windows requested of the host's region manager (R348): at most one is mapped. -/
inductive Mapping where
  /-- Both windows are unmapped. -/
  | unmapped
  /-- The 64 KiB banked window at `base`. -/
  | banked (base : Word)
  /-- The linear window of `size` bytes at `base`. -/
  | linear (base : Word) (size : Nat)
  deriving DecidableEq, Repr

/-- A call of the core to its host (R355). -/
inductive Output where
  /-- `host.blit(w, h)` (R299). -/
  | blit (w : Nat) (h : Int)
  /-- `host.wait_for_buffer()` (R286). -/
  | waitForBuffer
  /-- `SysWrite(a, n, v)` (R77). -/
  | sysWrite (addr : Word) (n : Nat) (v : Word)
  /-- A mapping request (R348). -/
  | mapRequest (m : Mapping)
  /-- `AttachFailure`, reported to the attach caller (R371, R374). -/
  | attachFailure
  deriving DecidableEq, Repr

/-- What the last reading event or operation returned (the model's own field, log 1). -/
inductive Answer where
  /-- Nothing was returned yet. -/
  | none
  /-- The bytes of a read, lowest address first; `none` for a byte this device does not supply (log 19). -/
  | data (bytes : List (Option Byte))
  /-- The value of an operation: a raster operation's result, a pixel, a source operand. -/
  | value (v : Word)
  /-- The outcome of a test: an admission, a clip, a comparison, a mix selection. -/
  | verdict (b : Bool)
  /-- The meaning of an octant: x direction, y direction, whether y is the major axis. -/
  | directions (xdir ydir : Int) (ymajor : Bool)
  /-- A selected map. -/
  | mapIndex (i : BitVec 2)
  deriving DecidableEq, Repr

/-- What the host delivers to the core, one entry a step. -/
inductive HostEvent where
  /-- The framed bytes of a row of the opcode table (log 2). -/
  | row (bytes : List Byte)
  /-- A read of the memory-mapped window at offset `off` (R349). -/
  | windowRead (off : BitVec 13) (len : Len)
  /-- A write of the memory-mapped window at offset `off` (R349). -/
  | windowWrite (off : BitVec 13) (len : Len) (val : Word)
  /-- The host sets `on` (R46, D32). -/
  | setOn (v : Bool)
  /-- The host sets `linear_endian_reverse` (D32). -/
  | setLinearEndianReverse (v : Bool)
  /-- The host sets `cursor_data_on` (D32). -/
  | setCursorDataOn (v : Bool)
  /-- The configuration interface changes `linear_base` (R353). -/
  | setLinearBase (v : Word)
  /-- The configuration interface changes `base_addr_1mb` (R353). -/
  | setBaseAddr1mb (v : Word)
  /-- The host's legacy layer writes a byte of `vram` (R46). -/
  | legacyVramWrite (addr : Nat) (v : Byte)
  /-- A write of the legacy CRTC data port under index `k` (R352). -/
  | legacyCrtcWrite (k v : Byte)
  /-- A read of the legacy CRTC data port under index `k` (R352). -/
  | legacyCrtcRead (k : Byte)
  /-- Attach (R390): the ROM image if the host could supply one, the aperture bases, the configuration record. -/
  | attach (rom : Option (List Byte)) (linearBase baseAddr1mb : Word) (cfg : HostConfig)
  /-- Detach (R382). -/
  | detach
  deriving DecidableEq, Repr

/-! ## The state -/

/-- The whole state of one adapter (R20). -/
structure State where
  /-- Whether the device exists (R371, R382, R390). -/
  attached : Bool
  /-- The configuration record (R7). -/
  cfg : HostConfig
  /-- How many devices were attached before this one (the model's own counter, log 5): it numbers the free values that
  memory holds until it is written. -/
  generation : Nat
  /-- Private video memory (R21): the bytes written since attach, addresses strictly rising. -/
  vram : List Host.Cell
  /-- Dirty-page counters (R22): the counters that are not 0, pages strictly rising. -/
  changedvram : List Host.Cell
  /-- The sprite buffer (R23): the bytes written since attach. -/
  spriteData : List Host.Cell
  /-- The palette (R24): the entries written since attach. -/
  palette : List (Nat × Rgb)
  /-- Accelerator registers (R26, R27, R30). -/
  acc : Accel
  /-- Live iteration state (R29). -/
  live : Live
  /-- Extended control registers (R31 to R36). -/
  ext : Ext
  /-- Host-set flags (R37). -/
  flags : HostFlags
  /-- Raster state (R40). -/
  raster : Raster
  /-- Effective timing values (R41). -/
  eff : Eff
  /-- The aperture windows (R348). -/
  mapping : Mapping
  /-- The output frame buffer (R25): written pixels under the key of `fbKey`, keys strictly rising. -/
  fb : List (Nat × Pixel)
  /-- The host's legacy CRTC register file (R352): the registers written. -/
  legacyCrtc : List Host.Cell
  /-- `SysRead` calls made so far (the model's own counter, log 14). -/
  sysReads : Nat
  /-- Calls made to the host, the newest first (R355). -/
  outputs : List Output
  /-- The last returned value (the model's own field, log 1). -/
  answer : Answer
  /-- Host events not yet delivered, the next one first (the model's own field, log 4). -/
  inbox : List HostEvent
  deriving DecidableEq, Repr

/-! ## Reasons to stop -/

/-- The reasons to stop with a fault: there is none. "No operation of the running core raises a synchronous exception"
(R370), and `AttachFailure`, the one failure, leaves a next state in which no device exists (R371, R375;
`State.raiseAttachFailure`). -/
inductive Fault where
  deriving DecidableEq, Repr

/-- Why the model gives no next state. No row of the opcode table ends in one of these, but for `notModelled`. -/
inductive Refusal where
  /-- Raised by `exec` for a row without a meaning. Safe: the model goes no further. No arm raises it. -/
  | notModelled (mnemonic : String)
  /-- Raised by `step` for an inbox entry whose bytes are no event of the model's framing (log 2). Safe: no host event of
  R100 is lost, since each has an encoding. -/
  | undecodable (e : DecodeError)
  /-- Raised by `step` for any event but an attach while no device is attached: "no event can occur" then (R371, R382,
  log 22). Safe: the model goes no further. -/
  | notAttached
  /-- Raised by `step` for a legacy-layer write of `vram` while `on` is true: the `on` flag alone excludes it (R46, R402,
  log 20). Safe: the model claims nothing about a host that breaks the exclusion. -/
  | legacyWriteWhileOn
  deriving DecidableEq, Repr

/-! ## Reset: the state after attach (R47, R391) -/

/-- A descriptor after attach (R30). -/
def MapDesc.zero : MapDesc := { base := 0, width := 0, height := 0, format := 0 }

/-- The accelerator registers after attach: all 0 (R26, R27, R30). -/
def Accel.zero : Accel :=
  { frgdColor := 0, bkgdColor := 0, planeMask := 0, colorCmp := 0, ccCond := 0, frgdMix := 0, bkgdMix := 0,
    bresErrTerm := 0, bresK1 := 0, bresK2 := 0, shortStroke := 0, bltWidth := 0, bltHeight := 0,
    maskOriginX := 0, maskOriginY := 0, srcMapX := 0, srcMapY := 0, patMapX := 0, patMapY := 0,
    dstMapX := 0, dstMapY := 0, pxMapIdx := 0, command := 0,
    maps := { m0 := MapDesc.zero, m1 := MapDesc.zero, m2 := MapDesc.zero, m3 := MapDesc.zero } }

/-- The live iteration state after attach: all 0 (R29). -/
def Live.zero : Live := { sx := 0, sy := 0, px := 0, py := 0, dx := 0, dy := 0, x := 0, y := 0 }

/-- The CRTC fields after attach: all 0 (R31 to R33). -/
def CrtcRegs.zero : CrtcRegs :=
  { opMode := 0, htotal := 0, vtotal := 0, hblankstart := 0, vblankstart := 0, hsyncstart := 0, vsyncstart := 0,
    hdispend := 0, vdispend := 0, linecmp := 0, dispMode := 0, dispAddr := 0, dispPitch := 0, clkSel := 0 }

/-- The extended registers after attach: all 0, the two bases as the host configured them (R31 to R36). -/
def Ext.zero (linearBase baseAddr1mb : Word) : Ext :=
  { crtc := CrtcRegs.zero, apertureCntl := 0, accessMode := 0, apIdx := 0, regIdx := 0, port4 := 0,
    dacIndex := 0, dacSeq := .red, dacR := 0, dacG := 0, hwcX := 0, hwcY := 0, hwcXoff := 0, hwcYoff := 0,
    hwcColor0 := 0, hwcColor1 := 0, hwcEna := false, spriteIdx := 0,
    linearBase := linearBase, baseAddr1mb := baseAddr1mb, bankedMask := 0 }

/-- The raster state after attach (R40); `none` is `FIRSTLINE_NONE` (for `firstline_draw` too: DESIGN CHOICE, log 39). -/
def Raster.zero (none : Half) : Raster :=
  { linepos := false, vc := 0, sc := 0, displine := 0, ma := 0, maback := 0, dispon := false, oddeven := false,
    firstline := none, lastline := 0, firstlineDraw := none, lastlineDraw := 0, fullchange := 0,
    changeframecount := 2, hwcursorOn := 0, hwcursorOddeven := false,
    latch := { x := 0, y := 0, xoff := 0, yoff := 0, ena := false, addr := 0 } }

/-- The effective timing values after attach: all 0 (R41). -/
def Eff.zero : Eff :=
  { vTotal := 0, dispend := 0, vSyncstart := 0, split := 0, hDisp := 0, rowoffset := 0, maLatch := 0, rowcount := 0,
    interlace := false, bpp16 := false }

/-- The configuration record at reset: the defaults of R7; what is OPEN stays free where the record allows it, else 0
(DESIGN CHOICE, log 9). -/
def HostConfig.default : HostConfig :=
  { adapterNo := 0, mmioBase := 0, rom := [], vramLog2 := 20, accelWindowMiB := 0, oorByte := 0xFF, mapDimBias := 0,
    ccCode4Passes := true, op4OnStepsWrite := true, rowUnit := 8, bankedBase := 0xA0000,
    access8 := none, swap16 := none, patTiled := none, srcTiled := none, recalc := .free,
    cmdLayout := Config.cmdLayout, accelRegMap := Config.accelRegMap, extRegMap := Config.extRegMap,
    firstlineNone := 2000, outBits := 24 }

/-- The device state created at attach, before `UpdateMapping()` runs (R390 step 3, R391), beside a host's side in which
nothing has happened yet. -/
def State.created (linearBase baseAddr1mb : Word) (cfg : HostConfig) : State :=
  { attached := true, cfg := cfg, generation := 0, vram := [], changedvram := [], spriteData := [], palette := [],
    acc := Accel.zero, live := Live.zero, ext := Ext.zero linearBase baseAddr1mb,
    flags := { on := false, linearEndianReverse := false, cursorDataOn := false },
    raster := Raster.zero cfg.firstlineNone, eff := Eff.zero, mapping := .unmapped, fb := [], legacyCrtc := [],
    sysReads := 0, outputs := [], answer := .none, inbox := [] }

/-- The machine right after attach (R390, R391): every register as the spec's "after attach" columns say, the linear
window mapped by step 4 of R390 (4 MiB at `linear_base`, no legacy override), nothing in the inbox. -/
def State.reset : State :=
  { State.created 0 0 HostConfig.default with
    mapping := .linear 0 0x400000
    outputs := [.mapRequest (.linear 0 0x400000)] }

end Sys2Proof.Machine
end

