-- ==== Sys2Proof/Machine/Ops.lean ====
section
/-! DEFINITION. The named operations: video memory with its dirty stamp (R74, R75), system memory (R77), the
accelerator's view (R76), the frame buffer, descriptors, the aperture mapping (R348), and attach with the one
exception of the spec (R371, R390). -/

namespace Sys2Proof.Machine

/-! ## Outputs and answers -/

/-- Call the host (R355). -/
def State.emit (s : State) (o : Output) : State := { s with outputs := o :: s.outputs }

/-- Return a value (log 1). -/
def State.respond (s : State) (a : Answer) : State := { s with answer := a }

/-- Replace the raster state (R40). -/
def State.withRaster (s : State) (r : Raster) : State := { s with raster := r }

/-! ## Video memory -/

/-- `VRAM_SIZE` (R7). -/
def HostConfig.vramSize (c : HostConfig) : Nat := 2 ^ c.vramLog2.toNat

/-- Index of the guard entry of `changedvram` (R22). -/
def HostConfig.guardPage (c : HostConfig) : Nat := HostConfig.vramSize c >>> Config.pageShift

/-- Byte `i` of the array: arbitrary until written (R21, log 5). -/
def State.vramAt (s : State) (i : Nat) : Byte := (Sparse.find i s.vram).getD (Config.vramInit s.generation i)

/-- Byte `i` as `VramRead` sees it: `OOR_READ_BYTE` at or beyond `VRAM_SIZE` (R74). -/
def State.vramByte (s : State) (i : Nat) : Byte :=
  if i < HostConfig.vramSize s.cfg then s.vramAt i else s.cfg.oorByte

/-- Byte `i` as the renderer sees it: with wrap-around at `VRAM_SIZE` (R292). -/
def State.vramWrapped (s : State) (i : Nat) : Byte := s.vramAt (i % HostConfig.vramSize s.cfg)

/-- `VramRead(a, n)`'s bytes, lowest address first (R74). -/
def State.vramBytes (s : State) (a n : Nat) : List Byte := (List.range n).map (fun k => s.vramByte (a + k))

/-- `VramRead(a, n)` (R74). -/
def State.vramRead (s : State) (a n : Nat) : Word := leValue (s.vramBytes a n)

/-- The counter of page `p` (R22). -/
def State.dirty (s : State) (p : Nat) : Byte := Counters.read s.changedvram p

/-- Stamp page `p` with the current frame counter (R75, R291). The array ends at its guard entry. -/
def State.stampPage (s : State) (p : Nat) : State :=
  if p ≤ HostConfig.guardPage s.cfg then
    { s with changedvram := Counters.write s.changedvram p s.raster.changeframecount }
  else s

/-- One byte of `VramWrite`: stored and stamped in range, dropped beyond `VRAM_SIZE` (R75). -/
def State.vramWriteByte (s : State) (i : Nat) (v : Byte) : State :=
  if i < HostConfig.vramSize s.cfg then
    { s with
      vram := Memory.write s.vram i v
      changedvram := Counters.write s.changedvram (i >>> Config.pageShift) s.raster.changeframecount }
  else s

/-- `VramWrite(a, n, v)` with the `n` bytes of `v` given, lowest first, in ascending order (R75). -/
def State.vramWrite (s : State) (a : Nat) : List Byte → State
  | [] => s
  | b :: bs => (s.vramWriteByte a b).vramWrite (a + 1) bs

/-- A write of a byte of `vram` by the host's legacy layer: no dirty stamp (R46, R84). -/
def State.legacyWrite (s : State) (i : Nat) (v : Byte) : State :=
  if i < HostConfig.vramSize s.cfg then { s with vram := Memory.write s.vram i v } else s

/-! ## System memory and the accelerator's view -/

/-- `ACCEL_WINDOW_BASE` (R7, R76). -/
def HostConfig.windowBase (c : HostConfig) : Nat := Config.accelWindowSize * c.accelWindowMiB.toNat

/-- `InWindow(a)` (R76). -/
def State.inWindow (s : State) (a : Word) : Bool :=
  decide (HostConfig.windowBase s.cfg ≤ a.toNat ∧ a.toNat < HostConfig.windowBase s.cfg + Config.accelWindowSize)

/-- `SysRead(a, n)`: the oracle's next answer (R77, log 14). -/
def State.sysRead (s : State) (a : Word) (n : Nat) : Word × State :=
  (lowBytes (Config.sysRead s.sysReads a n) n, { s with sysReads := s.sysReads + 1 })

/-- `SysWrite(a, n, v)`: an output event (R77). -/
def State.sysWrite (s : State) (a : Word) (n : Nat) (v : Word) : State := s.emit (.sysWrite a n (lowBytes v n))

/-- `AccelRead(a, n)` (R76): the window test is made once, on the first byte. -/
def State.accelRead (s : State) (a : Word) (n : Nat) : Word × State :=
  if s.inWindow a then (s.vramRead (a.toNat - HostConfig.windowBase s.cfg) n, s) else s.sysRead a n

/-- `AccelWrite(a, n, v)` (R76). -/
def State.accelWrite (s : State) (a : Word) (n : Nat) (v : Word) : State :=
  if s.inWindow a then s.vramWrite (a.toNat - HostConfig.windowBase s.cfg) (bytesOf v n) else s.sysWrite a n v

/-! ## The frame buffer -/

/-- The key of output pixel `x` of `line`. -/
def fbKey (line : Half) (x : Nat) : Nat := 65536 * x + line.toNat

/-- `OUT_BITS` bits of a value (R9, R10). -/
def HostConfig.outPixel (c : HostConfig) (v : Nat) : Pixel := v % 2 ^ c.outBits

/-- An output pixel; one that no rule has written is a free value (log 7). -/
def State.fbRead (s : State) (line : Half) (x : Nat) : Pixel :=
  (Sparse.find (fbKey line x) s.fb).getD (HostConfig.outPixel s.cfg (Config.fbInit line x))

/-- Write an output pixel, truncated to its width (R10). -/
def State.fbWrite (s : State) (line : Half) (x : Nat) (v : Nat) : State :=
  { s with fb := Memory.write s.fb (fbKey line x) (HostConfig.outPixel s.cfg v) }

/-! ## Pixel-map descriptors -/

/-- `map[i]` (R30). -/
def MapBank.get (b : MapBank) (i : BitVec 2) : MapDesc :=
  match i.toNat with
  | 0 => b.m0
  | 1 => b.m1
  | 2 => b.m2
  | _ => b.m3

/-- The bank with `map[i]` replaced. -/
def MapBank.set (b : MapBank) (i : BitVec 2) (d : MapDesc) : MapBank :=
  match i.toNat with
  | 0 => { b with m0 := d }
  | 1 => { b with m1 := d }
  | 2 => { b with m2 := d }
  | _ => { b with m3 := d }

/-- `map[i]` of the state. -/
def State.mapDesc (s : State) (i : BitVec 2) : MapDesc := MapBank.get s.acc.maps i

/-- `MapW(i)` (R30). -/
def HostConfig.mapW (c : HostConfig) (d : MapDesc) : Nat := d.width.toNat + c.mapDimBias

/-- `MapH(i)` (R30). -/
def HostConfig.mapH (c : HostConfig) (d : MapDesc) : Nat := d.height.toNat + c.mapDimBias

/-! ## Configuration predicates -/

/-- `ACCESS8(am)`: the record's table, or the free value (R133, log 10). -/
def HostConfig.access8At (c : HostConfig) (am : Byte) : Bool :=
  match c.access8 with
  | some t => t.getLsbD am.toNat
  | none => Config.access8 am

/-- `SWAP16(am)` (R137, log 10). -/
def HostConfig.swap16At (c : HostConfig) (am : Byte) : Bool :=
  match c.swap16 with
  | some t => t.getLsbD am.toNat
  | none => Config.swap16 am

/-- `PAT_TILED(st)` (R204, log 11). -/
def State.patTiled (s : State) : Bool :=
  match s.cfg.patTiled with
  | some b => b
  | none => Config.patTiled s.acc.maps s.acc.command

/-- `SRC_TILED(st)` (R204, log 11). -/
def State.srcTiled (s : State) : Bool :=
  match s.cfg.srcTiled with
  | some b => b
  | none => Config.srcTiled s.acc.maps s.acc.command

/-! ## The aperture mapping -/

/-- Size of the banked window: 64 KiB (R346). -/
def bankedSize : Nat := 0x10000

/-- The windows that `aperture_cntl` and the two bases select (R348). -/
def Ext.windows (e : Ext) (bankedBase : Word) : Mapping :=
  match e.apertureCntl.toNat with
  | 1 => .banked bankedBase
  | 0 => if e.baseAddr1mb ≠ 0 then .linear e.baseAddr1mb 0x100000 else .linear e.linearBase 0x400000
  | _ => .unmapped

/-- `UpdateMapping()` (R348): a mapping request, and `banked_mask` becomes 0xffff where the banked window is mapped. -/
def State.updateMapping (s : State) : State :=
  let m := Ext.windows s.ext s.cfg.bankedBase
  let s := { s with
    mapping := m
    ext := { s.ext with bankedMask := if s.ext.apertureCntl = 1 then 0xFFFF else s.ext.bankedMask } }
  s.emit (.mapRequest m)

/-! ## Timing recalculation -/

/-- `RECALC_ID`, the plain copy of R283's table. -/
def recalcIdentity (c : CrtcRegs) : Eff :=
  { vTotal := c.vtotal.toNat, dispend := c.vdispend.toNat, vSyncstart := c.vsyncstart.toNat, split := c.linecmp.toNat,
    hDisp := c.hdispend.toNat, rowoffset := c.dispPitch.toNat, maLatch := c.dispAddr.toNat, rowcount := 0,
    interlace := c.dispMode.getLsbD 3, bpp16 := decide (c.dispMode.extractLsb' 0 3 = 4) }

/-- `RECALC(st)` (R283, log 12). -/
def State.recalcValue (s : State) : Eff :=
  match s.cfg.recalc with
  | .free => Config.recalc s.ext.crtc
  | .identity => recalcIdentity s.ext.crtc

/-- `Recalc()` (R283): the effective values, and the force-redraw counter. -/
def State.recalc (s : State) : State :=
  { s with
    eff := s.recalcValue
    raster := { s.raster with fullchange := s.raster.changeframecount } }

/-- `PIXCLK[clk_sel]` (R281): only the host's timer uses it. -/
def State.pixelClock (s : State) : Nat := Config.pixclk s.ext.crtc.clkSel

/-! ## The other stores of data: arbitrary until written -/

/-- Byte `a` of the sprite buffer (R23, R391, log 6). -/
def State.spriteAt (s : State) (a : Nat) : Byte := (Sparse.find a s.spriteData).getD (Config.spriteInit s.generation a)

/-- Palette entry `i` (R24, R391, log 6). -/
def State.paletteAt (s : State) (i : Nat) : Rgb := (Sparse.find i s.palette).getD (Config.paletteInit s.generation i)

/-- Register `k` of the legacy CRTC file (R352, log 21). -/
def State.crtcAt (s : State) (k : Nat) : Byte := (Sparse.find k s.legacyCrtc).getD (Config.crtcInit k)

/-! ## Attach, detach, and the one exception -/

/-- `t` with the host's side of `s`: the output frame buffer (R25) and the legacy CRTC file (R352), which no attach or
detach touches (DESIGN CHOICE, log 37), the count of devices, the oracle's count, the calls, the answer, the inbox. -/
def State.keepingHost (s t : State) : State :=
  { t with
    generation := s.generation, fb := s.fb, legacyCrtc := s.legacyCrtc, sysReads := s.sysReads, outputs := s.outputs,
    answer := s.answer, inbox := s.inbox }

/-- Detach (R382): the device state is destroyed, and nothing of it survives; what is the host's stays (log 37). -/
def State.detachDevice (s : State) : State :=
  s.keepingHost { State.created 0 0 s.cfg with attached := false }

/-- `raise AttachFailure` (R12, R371, R374): no device exists afterwards, and the attach caller is told. The machine goes
on, since the host may attempt attach again (R375). -/
def State.raiseAttachFailure (s : State) : State := s.detachDevice.emit .attachFailure

/-- The device created by an attach with a ROM image (R390 steps 3 and 4): the values of R391, a video memory, a sprite
buffer and a palette of their own arbitrary contents (log 5, log 6), then `UpdateMapping()`. What is the host's stays
(log 37). -/
def State.createDevice (s : State) (image : List Byte) (linearBase baseAddr1mb : Word) (cfg : HostConfig) : State :=
  let t := s.keepingHost (State.created linearBase baseAddr1mb { cfg with rom := image })
  State.updateMapping { t with generation := s.generation + 1 }

/-- The attach sequence (R390): with no ROM image, `AttachFailure` (R371); else a new device (log 22 for an attach while a
device is attached). -/
def State.attachDevice (s : State) (rom : Option (List Byte)) (linearBase baseAddr1mb : Word) (cfg : HostConfig) :
    State :=
  match rom with
  | none => s.raiseAttachFailure
  | some image => s.createDevice image linearBase baseAddr1mb cfg

end Sys2Proof.Machine
end

