-- ==== Sys2Proof/Machine/Operands.lean ====
section
/-! DEFINITION. How register contents become operands (R102 to R112): the command word's fields, octant directions, map
selectors, coordinates, Bresenham terms, the stroke byte, and the depth code. -/

namespace Sys2Proof.Machine

/-- The decoded fields of a command word (R102). -/
structure CmdFields where
  opcode : BitVec 4
  bgSrc : BitVec 2
  fgSrc : BitVec 2
  srcSel : BitVec 4
  dstSel : BitVec 4
  patSel : BitVec 4
  maskMode : BitVec 2
  drawMode : BitVec 2
  octant : BitVec 3
  deriving DecidableEq, Repr

/-- The fields of a command word under a layout (R102). -/
def cmdFields (l : CmdLayout) (w : Word) : CmdFields :=
  { opcode := w.extractLsb' l.opcode.val 4, bgSrc := w.extractLsb' l.bgSrc.val 2, fgSrc := w.extractLsb' l.fgSrc.val 2,
    srcSel := w.extractLsb' l.srcSel.val 4, dstSel := w.extractLsb' l.dstSel.val 4,
    patSel := w.extractLsb' l.patSel.val 4, maskMode := w.extractLsb' l.maskMode.val 2,
    drawMode := w.extractLsb' l.drawMode.val 2, octant := w.extractLsb' l.octant.val 3 }

/-- The command word whose opcode field is `code` and whose other 28 bits are `rest`, in their order (R102, log 27): under
the default layout, `code` in the top nibble above `rest`. -/
def commandWord (l : CmdLayout) (code : BitVec 4) (rest : BitVec 28) : Word :=
  let p := l.opcode.val
  BitVec.ofNat 32 (rest.toNat % 2 ^ p + code.toNat * 2 ^ p + rest.toNat / 2 ^ p * 2 ^ (p + 4))

/-- The fields of the command register, under `CMD_LAYOUT` (R27, R102). -/
def State.cmd (s : State) : CmdFields := cmdFields s.cfg.cmdLayout s.acc.command

/-- A map selector, modulo 4 (R107). -/
def selectMap (sel : BitVec 4) : BitVec 2 := sel.setWidth 2

/-- The x direction of an octant: bit 2 set means -1 (R104). -/
def octantXdir (o : BitVec 3) : Int := if o.getLsbD 2 then -1 else 1

/-- The y direction of an octant: bit 1 set means -1 (R104). -/
def octantYdir (o : BitVec 3) : Int := if o.getLsbD 1 then -1 else 1

/-- Whether y is the major axis of a line: bit 0 (R104). -/
def octantYmajor (o : BitVec 3) : Bool := o.getLsbD 0

/-- Whether a pattern selector selects a pattern map: every value but 8 (R107). -/
def patterned (f : CmdFields) : Bool := decide (f.patSel ≠ 8)

/-- The direction table `DIRTAB` (R118). -/
def strokeDirection (dir : BitVec 3) : Int × Int :=
  match dir.toNat with
  | 0 => (1, 0)
  | 1 => (1, -1)
  | 2 => (0, -1)
  | 3 => (-1, -1)
  | 4 => (-1, 0)
  | 5 => (-1, 1)
  | 6 => (0, 1)
  | _ => (1, 1)

/-- The depth a format code selects (R111). -/
inductive Depth where
  | one | eight | sixteen | reserved
  deriving DecidableEq, Repr

/-- The depth code, bits 2:0 of a format code (R111). -/
def depthOf (format : BitVec 4) : Depth :=
  match (format.extractLsb' 0 3).toNat with
  | 0 => .one
  | 3 => .eight
  | 4 => .sixteen
  | _ => .reserved

/-- The bit-order ("packed") flag, bit 3 of a format code (R111). -/
def packedFlag (format : BitVec 4) : Bool := format.getLsbD 3

/-- A format code from its flag and its depth code (R111). -/
def formatCode (packed : Bool) (depth : BitVec 3) : BitVec 4 := BitVec.ofBool packed ++ depth

/-- `WrapIf(c, v, n)` (R201, R204): the non-negative remainder, where the wrap applies and the dimension is not 0. -/
def wrapIf (c : Bool) (v : Int) (n : Nat) : Int := if n = 0 then v else if c then v % (n : Int) else v

end Sys2Proof.Machine
end

