-- ==== Sys2Proof/Machine/Flags.lean ====
section
/-! DEFINITION. The tests that gate a pixel write. The hardware has no arithmetic condition codes (R37); what plays the
part of flags is draw-mode admission (R182), the clip rectangle (R183) and the colour-compare condition (R184). -/

namespace Sys2Proof.Machine

/-- `Admit(ctx)` (R105, R182). -/
def drawModeAdmits (drawMode : BitVec 2) (firstCol firstRow : Bool) : Bool :=
  match drawMode.toNat with
  | 1 => !firstCol
  | 2 => !firstRow
  | _ => true

/-- `InClip(dx, dy)` (R183): the half-open rectangle at the mask-map origin, of map 0's width and height. -/
def State.inClip (s : State) (dx dy : Int) : Bool :=
  let ox := sext13 s.acc.maskOriginX
  let oy := sext13 s.acc.maskOriginY
  decide (ox ≤ dx ∧ dx < ox + (HostConfig.mapW s.cfg s.acc.maps.m0 : Int)) &&
    decide (oy ≤ dy ∧ dy < oy + (HostConfig.mapH s.cfg s.acc.maps.m0 : Int))

/-- `ClipPass(ctx)` (R106, R183): mask mode 0 does not clip, the other three do. -/
def State.clipPass (s : State) (maskMode : BitVec 2) (dx dy : Int) : Bool :=
  if maskMode = 0 then true else s.inClip dx dy

/-- `CcPass(dest)` under a condition code (R108, R184): unsigned, against the whole compare register. -/
def State.ccPass (s : State) (cond : BitVec 3) (dest : Word) : Bool :=
  match cond.toNat with
  | 0 => true
  | 1 => decide (s.acc.colorCmp.toNat < dest.toNat)
  | 2 => decide (dest.toNat = s.acc.colorCmp.toNat)
  | 3 => decide (dest.toNat < s.acc.colorCmp.toNat)
  | 4 => s.cfg.ccCode4Passes
  | 5 => decide (s.acc.colorCmp.toNat ≤ dest.toNat)
  | 6 => decide (dest.toNat ≠ s.acc.colorCmp.toNat)
  | _ => decide (dest.toNat ≤ s.acc.colorCmp.toNat)

end Sys2Proof.Machine
end

