-- ==== Sys2Proof/Machine/PixelMap.lean ====
section
/-! DEFINITION. Pixel-map addressing (R130 to R140): `read_pixel` and `write_pixel`. -/

namespace Sys2Proof.Machine

/-- Address of a 1-bit pixel (R131): `div` is floor division (R9). -/
def addr1 (c : HostConfig) (d : MapDesc) (x y : Int) : Word :=
  trunc32 (d.base.toNat + y * ((HostConfig.mapW c d / 8 : Nat) : Int) + x / 8)

/-- Address of an 8-bit pixel (R136). -/
def addr8 (c : HostConfig) (d : MapDesc) (x y : Int) : Word :=
  trunc32 (d.base.toNat + y * (HostConfig.mapW c d : Int) + x)

/-- Address of a 16-bit pixel (R137). -/
def addr16 (c : HostConfig) (d : MapDesc) (x y : Int) : Word :=
  trunc32 (d.base.toNat + y * ((HostConfig.mapW c d * 2 : Nat) : Int) + x * 2)

/-- Bit position of a 1-bit pixel in its byte (R133). -/
def State.bitpos (s : State) (d : MapDesc) (x : Int) : Nat :=
  let x7 := (x % 8).toNat
  if s.flags.linearEndianReverse then 7 - x7
  else if packedFlag d.format then
    if HostConfig.access8At s.cfg s.ext.accessMode then 7 - x7 else x7
  else 7 - x7

/-- Whether a 16-bit pixel's bytes are swapped (R137). -/
def State.swapped (s : State) : Bool :=
  if s.flags.linearEndianReverse then HostConfig.swap16At s.cfg s.ext.accessMode else false

/-- A 16-bit value, swapped where `State.swapped` says so, as a word (R137). -/
def State.orient16 (s : State) (w : Word) : Word :=
  if s.swapped then (bswap16 (w.extractLsb' 0 16)).setWidth 32 else (w.extractLsb' 0 16).setWidth 32

/-- `read_pixel` of a descriptor (R134, R136, R137, R139, R140): the value and the state after any `SysRead`. -/
def State.readPixelOf (s : State) (d : MapDesc) (x y : Int) : Word × State :=
  match depthOf d.format with
  | .one =>
    let r := s.accelRead (addr1 s.cfg d x y) 1
    ((r.1 >>> s.bitpos d x) &&& 1, r.2)
  | .eight => s.accelRead (addr8 s.cfg d x y) 1
  | .sixteen =>
    let r := s.accelRead (addr16 s.cfg d x y) 2
    (s.orient16 r.1, r.2)
  | .reserved => (0, s)

/-- `write_pixel` of a descriptor (R135, R136, R137, R139, R140). -/
def State.writePixelOf (s : State) (d : MapDesc) (x y : Int) (v : Word) : State :=
  match depthOf d.format with
  | .one =>
    let a := addr1 s.cfg d x y
    let p := s.bitpos d x
    let r := s.accelRead a 1
    r.2.accelWrite a 1 ((r.1 &&& ~~~(1#32 <<< p)) ||| ((v &&& 1) <<< p))
  | .eight => s.accelWrite (addr8 s.cfg d x y) 1 v
  | .sixteen => s.accelWrite (addr16 s.cfg d x y) 2 (s.orient16 v)
  | .reserved => s

/-- `read_pixel(map, x, y)` (R130). -/
def State.readPixel (s : State) (m : BitVec 2) (x y : Int) : Word × State := s.readPixelOf (s.mapDesc m) x y

/-- `write_pixel(map, x, y, value)` (R130). -/
def State.writePixel (s : State) (m : BitVec 2) (x y : Int) (v : Word) : State := s.writePixelOf (s.mapDesc m) x y v

/-- A pixel access of map `m` under the format given instead of the map's own (R134 to R139, log 28). -/
def State.accessPixel (s : State) (format : BitVec 4) (acc : PixAccess) : State :=
  match acc with
  | .read m x y =>
    let r := s.readPixelOf { s.mapDesc m with format := format } x.toInt y.toInt
    r.2.respond (.value r.1)
  | .write m x y v => s.writePixelOf { s.mapDesc m with format := format } x.toInt y.toInt v

end Sys2Proof.Machine
end

