-- ==== Sys2Proof/Machine/Rop.lean ====
section
/-! DEFINITION. The ROP engine (R150 to R175) and the plane mask (R176): `d` is the destination operand, `s` the source
operand. Natural-number subtraction is the clamp to 0 of R170 and R171. -/

namespace Sys2Proof.Machine

/-- `CLEAR`, code 0x00 (R151). -/
def ropClear (_ _ : Word) : Word := 0

/-- `AND`, code 0x01 (R152). -/
def ropAnd (d s : Word) : Word := s &&& d

/-- `AND_NOT`, code 0x02 (R153, R175). -/
def ropAndNot (d s : Word) : Word := s &&& ~~~d

/-- `SRC`, code 0x03 (R154). -/
def ropSrc (_ s : Word) : Word := s

/-- `NOT_AND`, code 0x04 (R155, R175). -/
def ropNotAnd (d s : Word) : Word := ~~~s &&& d

/-- `NOP`, code 0x05 (R156). -/
def ropNop (d _ : Word) : Word := d

/-- `XOR`, code 0x06 (R157). -/
def ropXor (d s : Word) : Word := s ^^^ d

/-- `OR`, code 0x07 (R158). -/
def ropOr (d s : Word) : Word := s ||| d

/-- `NOR`, code 0x08 (R159). -/
def ropNor (d s : Word) : Word := ~~~s &&& ~~~d

/-- `XNOR`, code 0x09 (R160). -/
def ropXnor (d s : Word) : Word := s ^^^ ~~~d

/-- `NOT_DEST`, code 0x0A (R161). -/
def ropNotDest (d _ : Word) : Word := ~~~d

/-- `OR_NOT`, code 0x0B (R162, R175). -/
def ropOrNot (d s : Word) : Word := s ||| ~~~d

/-- `NOT_SRC`, code 0x0C (R163). -/
def ropNotSrc (_ s : Word) : Word := ~~~s

/-- `NOT_OR_DEST`, code 0x0D (R164). -/
def ropNotOrDest (d s : Word) : Word := ~~~s ||| d

/-- `NAND`, code 0x0E (R165). -/
def ropNand (d s : Word) : Word := ~~~s ||| ~~~d

/-- `SET`, code 0x0F (R166). -/
def ropSet (_ _ : Word) : Word := 0xFFFFFFFF

/-- `MAX`, code 0x10 (R167). -/
def ropMax (d s : Word) : Word := BitVec.ofNat 32 (max s.toNat d.toNat)

/-- `MIN`, code 0x11 (R168). -/
def ropMin (d s : Word) : Word := BitVec.ofNat 32 (min s.toNat d.toNat)

/-- `ADD_SAT`, code 0x12 (R169, R174). -/
def ropAddSat (d s : Word) : Word := BitVec.ofNat 32 (min 0xFF (s.toNat + d.toNat))

/-- `SUB_SAT_DS`, code 0x13 (R170). -/
def ropSubSatDs (d s : Word) : Word := BitVec.ofNat 32 (d.toNat - s.toNat)

/-- `SUB_SAT_SD`, code 0x14 (R171). -/
def ropSubSatSd (d s : Word) : Word := BitVec.ofNat 32 (s.toNat - d.toNat)

/-- `AVG`, code 0x15 (R172, R174). -/
def ropAvg (d s : Word) : Word := BitVec.ofNat 32 ((s.toNat + d.toNat) / 2)

/-- `MIX_UNDEF`, codes 0x16 to 0x1F: the destination unmodified (R173). -/
def ropUndef (d _ : Word) : Word := d

/-- The operation of a mix code (R109). -/
def ropOf (code : BitVec 5) (d s : Word) : Word :=
  match code.toNat with
  | 0x00 => ropClear d s
  | 0x01 => ropAnd d s
  | 0x02 => ropAndNot d s
  | 0x03 => ropSrc d s
  | 0x04 => ropNotAnd d s
  | 0x05 => ropNop d s
  | 0x06 => ropXor d s
  | 0x07 => ropOr d s
  | 0x08 => ropNor d s
  | 0x09 => ropXnor d s
  | 0x0A => ropNotDest d s
  | 0x0B => ropOrNot d s
  | 0x0C => ropNotSrc d s
  | 0x0D => ropNotOrDest d s
  | 0x0E => ropNand d s
  | 0x0F => ropSet d s
  | 0x10 => ropMax d s
  | 0x11 => ropMin d s
  | 0x12 => ropAddSat d s
  | 0x13 => ropSubSatDs d s
  | 0x14 => ropSubSatSd d s
  | 0x15 => ropAvg d s
  | _ => ropUndef d s

/-- The mix code of a path: the low 5 bits of its mix register (R150). -/
def State.mixCode (s : State) (foreground : Bool) : BitVec 5 :=
  if foreground then s.acc.frgdMix.extractLsb' 0 5 else s.acc.bkgdMix.extractLsb' 0 5

/-- `apply_rop(mix_select, dest, src)` (R150). -/
def State.applyRop (s : State) (foreground : Bool) (dest src : Word) : Word := ropOf (s.mixCode foreground) dest src

/-- The plane-mask merge (R176). -/
def planeMerge (planeMask oldDest result : Word) : Word := (result &&& planeMask) ||| (oldDest &&& ~~~planeMask)

end Sys2Proof.Machine
end

