-- ==== Sys2Proof/Machine/PixelStep.lean ====
section
/-! DEFINITION. The shared pixel step (R180 to R188) and the choice of the mix from the pattern (R202). -/

namespace Sys2Proof.Machine

/-- The context of a pixel step (R180), but for the command fields. -/
structure StepCtx where
  sx : Int
  sy : Int
  dx : Int
  dy : Int
  /-- True for the foreground path (`mix` = 1). -/
  mix : Bool
  firstCol : Bool
  firstRow : Bool
  deriving DecidableEq, Repr

/-- The source operand of the foreground path under a source select (R117, R185). -/
def State.fgSource (s : State) (fgSrc : BitVec 2) (srcSel : BitVec 4) (sx sy : Int) : Word × State :=
  if fgSrc = 2 then s.readPixel (selectMap srcSel) sx sy else (s.acc.frgdColor, s)

/-- The source operand of the background path under a source select (R117, R185). -/
def State.bgSource (s : State) (bgSrc : BitVec 2) (srcSel : BitVec 4) (sx sy : Int) : Word × State :=
  if bgSrc = 2 then s.readPixel (selectMap srcSel) sx sy else (s.acc.bkgdColor, s)

/-- Stage (c): the source operand of the path taken (R185). -/
def State.fetchSource (s : State) (f : CmdFields) (mix : Bool) (sx sy : Int) : Word × State :=
  if mix then s.fgSource f.fgSrc f.srcSel sx sy else s.bgSource f.bgSrc f.srcSel sx sy

/-- The mix of one iteration (R107, R202): foreground without a pattern, else whether the pattern pixel is non-zero. -/
def State.fetchMix (s : State) (f : CmdFields) (px py : Int) : Bool × State :=
  if patterned f then
    let r := s.readPixel (selectMap f.patSel) px py
    (decide (r.1 ≠ 0), r.2)
  else (true, s)

/-- Stages (c) to (e) (R185, R186, R187), with the destination pixel already read. -/
def State.combine (s : State) (f : CmdFields) (c : StepCtx) (dest : Word) : State :=
  let src := s.fetchSource f c.mix c.sx c.sy
  src.2.writePixel (selectMap f.dstSel) c.dx c.dy
    (planeMerge s.acc.planeMask dest (s.applyRop c.mix dest src.1))

/-- `PixelStep(ctx)` (R188). -/
def State.pixelStep (s : State) (f : CmdFields) (c : StepCtx) : State :=
  if drawModeAdmits f.drawMode c.firstCol c.firstRow = false then s
  else if s.clipPass f.maskMode c.dx c.dy = false then s
  else
    let dest := s.readPixel (selectMap f.dstSel) c.dx c.dy
    if dest.2.ccPass s.acc.ccCond dest.1 = false then dest.2
    else dest.2.combine f c dest.1

end Sys2Proof.Machine
end

