-- ==== Sys2Proof/Machine/BitBlt.lean ====
section
/-! DEFINITION. BitBLT (R200 to R208). The loop of R201 makes exactly `(blt_width + 1) * (blt_height + 1)` iterations
(R200); the model counts them out (log 32). -/

namespace Sys2Proof.Machine

/-- Apply a function `n` times. -/
def iter {α : Type} : Nat → (α → α) → α → α
  | 0, _, a => a
  | n + 1, f, a => iter n f (f a)

/-- Load the live iteration state (R29). -/
def State.withLive (s : State) (l : Live) : State := { s with live := l }

/-- The write-back of a primitive's end (R206, R225, R240). -/
def State.writeBack (s : State) : State :=
  { s with acc := { s.acc with dstMapX := trunc16 s.live.dx, dstMapY := trunc16 s.live.dy } }

/-- The coordinates of the operand registers, as every primitive loads them (R112, R201, R221, R236). -/
def State.loadLive (s : State) (x y : Int) : Live :=
  { sx := sext13 s.acc.srcMapX, sy := sext13 s.acc.srcMapY, px := sext13 s.acc.patMapX, py := sext13 s.acc.patMapY,
    dx := sext13 s.acc.dstMapX, dy := sext13 s.acc.dstMapY, x := x, y := y }

/-- What a BitBLT fixes at its trigger (R201). -/
structure BlitParams where
  f : CmdFields
  xdir : Int
  ydir : Int
  w : Nat
  h : Nat
  ptile : Bool
  stile : Bool
  srcW : Nat
  srcH : Nat
  patW : Nat
  patH : Nat
  sx0 : Int
  px0 : Int
  dx0 : Int
  deriving DecidableEq, Repr

/-- The parameters at the trigger (R201, R204). -/
def State.blitParams (s : State) : BlitParams :=
  let f := s.cmd
  let src := s.mapDesc (selectMap f.srcSel)
  let pat := s.mapDesc (selectMap f.patSel)
  let ptile := if patterned f then s.patTiled else false
  let stile := s.srcTiled
  { f := f, xdir := octantXdir f.octant, ydir := octantYdir f.octant,
    w := s.acc.bltWidth.toNat, h := s.acc.bltHeight.toNat, ptile := ptile, stile := stile,
    srcW := HostConfig.mapW s.cfg src, srcH := HostConfig.mapH s.cfg src,
    patW := HostConfig.mapW s.cfg pat, patH := HostConfig.mapH s.cfg pat,
    sx0 := wrapIf stile (sext13 s.acc.srcMapX) (HostConfig.mapW s.cfg src),
    px0 := wrapIf ptile (sext13 s.acc.patMapX) (HostConfig.mapW s.cfg pat),
    dx0 := sext13 s.acc.dstMapX }

/-- The live state at the start of a BitBLT (R201). -/
def State.blitStart (s : State) (p : BlitParams) : Live :=
  { sx := p.sx0, sy := wrapIf p.stile (sext13 s.acc.srcMapY) p.srcH,
    px := p.px0, py := wrapIf p.ptile (sext13 s.acc.patMapY) p.patH,
    dx := p.dx0, dy := sext13 s.acc.dstMapY, x := p.w, y := p.h }

/-- The advance after a pixel step: along the row, or past a row boundary (R201, R205). -/
def blitAdvance (p : BlitParams) (l : Live) : Live :=
  if l.x - 1 < 0 then
    { sx := p.sx0, sy := wrapIf p.stile (l.sy + p.ydir) p.srcH,
      px := p.px0, py := wrapIf p.ptile (l.py + p.ydir) p.patH,
      dx := p.dx0, dy := l.dy + p.ydir, x := p.w, y := l.y - 1 }
  else
    { sx := wrapIf p.stile (l.sx + p.xdir) p.srcW, sy := l.sy,
      px := wrapIf p.ptile (l.px + p.xdir) p.patW, py := l.py,
      dx := l.dx + p.xdir, dy := l.dy, x := l.x - 1, y := l.y }

/-- The pixel step of one iteration (R201, R202, R203). -/
def State.blitPixel (s : State) (p : BlitParams) : State :=
  let m := s.fetchMix p.f s.live.px s.live.py
  m.2.pixelStep p.f
    { sx := s.live.sx, sy := s.live.sy, dx := s.live.dx, dy := s.live.dy, mix := m.1,
      firstCol := decide (s.live.x = (p.w : Int)), firstRow := decide (s.live.y = (p.h : Int)) }

/-- One iteration of the loop of R201. -/
def State.blitIter (p : BlitParams) (s : State) : State := (s.blitPixel p).withLive (blitAdvance p s.live)

/-- `BitBLT()` (R201). -/
def State.bitBlt (s : State) : State :=
  let p := s.blitParams
  (iter ((p.w + 1) * (p.h + 1)) (State.blitIter p) (s.withLive (s.blitStart p))).writeBack

end Sys2Proof.Machine
end

