-- ==== Sys2Proof/Machine/LineDraw.lean ====
section
/-! DEFINITION. Bresenham line draw (R220 to R227). The loop of R221 makes exactly `blt_width + 1` iterations (R220). -/

namespace Sys2Proof.Machine

/-- What a line draw fixes at its trigger (R221). -/
structure LineParams where
  f : CmdFields
  xdir : Int
  ydir : Int
  ymajor : Bool
  k1 : Int
  k2 : Int
  deriving DecidableEq, Repr

/-- The parameters at the trigger (R221). -/
def State.lineParams (s : State) : LineParams :=
  { f := s.cmd, xdir := octantXdir s.cmd.octant, ydir := octantYdir s.cmd.octant, ymajor := octantYmajor s.cmd.octant,
    k1 := sext14 s.acc.bresK1, k2 := sext14 s.acc.bresK2 }

/-- The error term after a move (R222): negative adds `k1`, else `k2`. -/
def lineErr (p : LineParams) (err : Int) : Int := if err < 0 then err + p.k1 else err + p.k2

/-- The coordinates after a move (R220, R222): the major axis always, the minor axis where the error term is not
negative. -/
def lineMove (p : LineParams) (err : Int) (l : Live) : Live :=
  { l with
    dx := if p.ymajor then (if err < 0 then l.dx else l.dx + p.xdir) else l.dx + p.xdir
    dy := if p.ymajor then l.dy + p.ydir else (if err < 0 then l.dy else l.dy + p.ydir)
    x := l.x + 1
    y := l.y - 1 }

/-- The pixel step of one iteration of a line or stroke (R221, R223, R224, R236). -/
def State.walkPixel (s : State) (f : CmdFields) : State :=
  let m := s.fetchMix f s.live.px s.live.py
  m.2.pixelStep f
    { sx := s.live.sx, sy := s.live.sy, dx := s.live.dx, dy := s.live.dy, mix := m.1,
      firstCol := decide (s.live.x = 0), firstRow := decide (s.live.y = 0) }

/-- One iteration of the loop of R221 on the error term and the state: no move after the last pixel (R225). -/
def lineIter (p : LineParams) (es : Int × State) : Int × State :=
  let s := es.2.walkPixel p.f
  let l := es.2.live
  if l.y - 1 < 0 then (es.1, s.withLive { l with y := l.y - 1 })
  else (lineErr p es.1, s.withLive (lineMove p es.1 l))

/-- `LineDraw()` (R221). -/
def State.lineDraw (s : State) : State :=
  let start := s.withLive (s.loadLive 0 s.acc.bltWidth.toNat)
  (iter (s.acc.bltWidth.toNat + 1) (lineIter s.lineParams) (sext14 s.acc.bresErrTerm, start)).2.writeBack

end Sys2Proof.Machine
end

