-- ==== Sys2Proof/Machine/ShortStroke.lean ====
section
/-! DEFINITION. Short-stroke vectors (R235 to R242). A stroke visits `len + 1` positions (R238). -/

namespace Sys2Proof.Machine

/-- What a stroke takes from its byte (R110, R236). -/
structure StrokeParams where
  f : CmdFields
  ddx : Int
  ddy : Int
  draw : Bool
  deriving DecidableEq, Repr

/-- One iteration of the loop of R236: the pixel step if the draw gate is set, then the move unless it was the last. -/
def State.strokeIter (p : StrokeParams) (s : State) : State :=
  let l := s.live
  let t := if p.draw then s.walkPixel p.f else s
  if l.y - 1 < 0 then t.withLive { l with y := l.y - 1 }
  else t.withLive { l with dx := l.dx + p.ddx, dy := l.dy + p.ddy, x := l.x + 1, y := l.y - 1 }

/-- `Stroke(b)` (R236) of a direction, a draw gate and a length. -/
def State.stroke (s : State) (dir : BitVec 3) (draw : Bool) (len : BitVec 4) : State :=
  let d := strokeDirection dir
  (iter (len.toNat + 1) (State.strokeIter { f := s.cmd, ddx := d.1, ddy := d.2, draw := draw })
    (s.withLive (s.loadLive 0 len.toNat))).writeBack

/-- `Stroke(b)` of a stroke byte (R110). -/
def State.strokeByte (s : State) (b : Byte) : State := s.stroke (b.extractLsb' 5 3) (b.getLsbD 4) (b.extractLsb' 0 4)

/-- `ShortStroke()` (R236): all four bytes, lane 0 first (R239). -/
def State.shortStrokes (s : State) : State :=
  let w := s.acc.shortStroke
  (((s.strokeByte (byteLane w 0)).strokeByte (byteLane w 1)).strokeByte (byteLane w 2)).strokeByte (byteLane w 3)

/-- The short-stroke trigger (R236): only while the command register holds opcode 4 and the parameter allows it. -/
def State.shortStrokeTrigger (s : State) : State :=
  if s.cfg.op4OnStepsWrite && decide (s.cmd.opcode = 4) then s.shortStrokes else s

end Sys2Proof.Machine
end

