-- ==== Sys2Proof/Machine/RegisterFile.lean ====
section
/-! DEFINITION. The accelerator register file (R250 to R259), the command trigger and its dispatch (R256 to R265). -/

namespace Sys2Proof.Machine

/-- The stored value of an accelerator register, zero-extended; descriptor registers under `px_map_idx` (R252, R254). -/
def accGet (a : Accel) : AccReg → Word
  | .pxMapIdx => a.pxMapIdx.setWidth 32
  | .mapBase => (MapBank.get a.maps a.pxMapIdx).base
  | .mapWidth => (MapBank.get a.maps a.pxMapIdx).width.setWidth 32
  | .mapHeight => (MapBank.get a.maps a.pxMapIdx).height.setWidth 32
  | .mapFormat => (MapBank.get a.maps a.pxMapIdx).format.setWidth 32
  | .bresErrTerm => a.bresErrTerm.setWidth 32
  | .bresK1 => a.bresK1.setWidth 32
  | .bresK2 => a.bresK2.setWidth 32
  | .shortStroke => a.shortStroke
  | .frgdMix => a.frgdMix.setWidth 32
  | .bkgdMix => a.bkgdMix.setWidth 32
  | .ccCond => a.ccCond.setWidth 32
  | .colorCmp => a.colorCmp
  | .planeMask => a.planeMask
  | .frgdColor => a.frgdColor
  | .bkgdColor => a.bkgdColor
  | .bltWidth => a.bltWidth.setWidth 32
  | .bltHeight => a.bltHeight.setWidth 32
  | .maskOriginX => a.maskOriginX.setWidth 32
  | .maskOriginY => a.maskOriginY.setWidth 32
  | .srcMapX => a.srcMapX.setWidth 32
  | .srcMapY => a.srcMapY.setWidth 32
  | .patMapX => a.patMapX.setWidth 32
  | .patMapY => a.patMapY.setWidth 32
  | .dstMapX => a.dstMapX.setWidth 32
  | .dstMapY => a.dstMapY.setWidth 32
  | .command => a.command

/-- The registers with one replaced, truncated to its field, which is its write mask (R10, R254, R255). -/
def accSet (a : Accel) (r : AccReg) (v : Word) : Accel :=
  let d := MapBank.get a.maps a.pxMapIdx
  match r with
  | .pxMapIdx => { a with pxMapIdx := v.setWidth 2 }
  | .mapBase => { a with maps := MapBank.set a.maps a.pxMapIdx { d with base := v } }
  | .mapWidth => { a with maps := MapBank.set a.maps a.pxMapIdx { d with width := v.setWidth 16 } }
  | .mapHeight => { a with maps := MapBank.set a.maps a.pxMapIdx { d with height := v.setWidth 16 } }
  | .mapFormat => { a with maps := MapBank.set a.maps a.pxMapIdx { d with format := v.setWidth 4 } }
  | .bresErrTerm => { a with bresErrTerm := v.setWidth 16 }
  | .bresK1 => { a with bresK1 := v.setWidth 16 }
  | .bresK2 => { a with bresK2 := v.setWidth 16 }
  | .shortStroke => { a with shortStroke := v }
  | .frgdMix => { a with frgdMix := v.setWidth 8 }
  | .bkgdMix => { a with bkgdMix := v.setWidth 8 }
  | .ccCond => { a with ccCond := v.setWidth 3 }
  | .colorCmp => { a with colorCmp := v }
  | .planeMask => { a with planeMask := v }
  | .frgdColor => { a with frgdColor := v }
  | .bkgdColor => { a with bkgdColor := v }
  | .bltWidth => { a with bltWidth := v.setWidth 16 }
  | .bltHeight => { a with bltHeight := v.setWidth 16 }
  | .maskOriginX => { a with maskOriginX := v.setWidth 16 }
  | .maskOriginY => { a with maskOriginY := v.setWidth 16 }
  | .srcMapX => { a with srcMapX := v.setWidth 16 }
  | .srcMapY => { a with srcMapY := v.setWidth 16 }
  | .patMapX => { a with patMapX := v.setWidth 16 }
  | .patMapY => { a with patMapY := v.setWidth 16 }
  | .dstMapX => { a with dstMapX := v.setWidth 16 }
  | .dstMapY => { a with dstMapY := v.setWidth 16 }
  | .command => { a with command := v }

/-- The register and byte lane at an offset of the block under an `ACCEL_REG_MAP`, if one is there (R252, R253): none above
0x7f. -/
def accLane (m : List AccEntry) (off : Nat) : Option (AccReg × Nat) :=
  if 0x7f < off then none
  else
    match m.find? (fun e => decide (e.off ≤ off ∧ off < e.off + e.bytes)) with
    | some e => some (e.reg, off - e.off)
    | none => none

/-- Merge one byte into the lane at an offset (R113, R253). -/
def accWriteByte (m : List AccEntry) (a : Accel) (off : Nat) (b : Byte) : Accel :=
  match accLane m off with
  | some (r, lane) => accSet a r (setByteLane (accGet a r) lane b)
  | none => a

/-- Merge bytes at ascending offsets (R113, R253). -/
def accMerge (m : List AccEntry) (a : Accel) (off : Nat) : List Byte → Accel
  | [] => a
  | b :: bs => accMerge m (accWriteByte m a off b) (off + 1) bs

/-- Whether a write of `n` bytes at `off` puts one into lane 3 of a register (R236, R256). -/
def touchesLane3 (m : List AccEntry) (r : AccReg) (off n : Nat) : Bool :=
  (List.range n).any (fun k => decide (accLane m (off + k) = some (r, 3)))

/-- `CommandTrigger()` (R256): dispatch on the opcode; only 5 and 8 draw (R103, R261 to R265). -/
def State.commandTrigger (s : State) : State :=
  match s.cmd.opcode.toNat with
  | 0x5 => s.lineDraw
  | 0x8 => s.bitBlt
  | _ => s

/-- `WR` of a list of bytes at an offset (R253): merge all, then the command trigger, then the short-stroke trigger. -/
def State.wrBytes (s : State) (off : Nat) (bs : List Byte) : State :=
  let s1 := { s with acc := accMerge s.cfg.accelRegMap s.acc off bs }
  let s2 := if touchesLane3 s.cfg.accelRegMap .command off bs.length then s1.commandTrigger else s1
  if touchesLane3 s.cfg.accelRegMap .shortStroke off bs.length then s2.shortStrokeTrigger else s2

/-- `WR(off, len, val)` (R253). -/
def State.wr (s : State) (off : Nat) (len : Len) (val : Word) : State := s.wrBytes off (bytesOf val len.bytes)

/-- The byte `RD` returns at an offset: 0 where no register is (R259). -/
def State.rdByte (s : State) (off : Nat) : Byte :=
  match accLane s.cfg.accelRegMap off with
  | some (r, lane) => byteLane (accGet s.acc r) lane
  | none => 0

/-- The bytes of `RD(off, len)`, lowest first (R259). -/
def State.rdBytes (s : State) (off n : Nat) : List Byte := (List.range n).map (fun k => s.rdByte (off + k))

/-- `RD(off, len)` (R259): an answer, and no other effect. -/
def State.rd (s : State) (off : Nat) (len : Len) : State := s.respond (.data ((s.rdBytes off len.bytes).map some))

/-- The first offset of a register under an `ACCEL_REG_MAP` (R252); the end of the block where the map has none, so that
an access there reaches nothing. -/
def offsetOf (m : List AccEntry) (r : AccReg) : Nat :=
  match m.find? (fun e => decide (e.reg = r)) with
  | some e => e.off
  | none => 0x80

/-- An access at a register's first offset (R253, R259, log 31). -/
def State.accessRegister (s : State) (r : AccReg) (acc : RegAccess) : State :=
  match acc with
  | .read len => s.rd (offsetOf s.cfg.accelRegMap r) len
  | .write len val => s.wr (offsetOf s.cfg.accelRegMap r) len val

/-- Replace the command register. -/
def State.setCommand (s : State) (w : Word) : State := { s with acc := { s.acc with command := w } }

/-- Replace the short-stroke register. -/
def State.setShortStroke (s : State) (w : Word) : State := { s with acc := { s.acc with shortStroke := w } }

end Sys2Proof.Machine
end

