-- ==== Sys2Proof/Machine/CommandMeanings.lean ====
section
/-! DEFINITION. The meanings of command words by opcode (R103, R256): the word is stored in the command register and the
primitive of its opcode runs to completion (log 27). -/

namespace Sys2Proof.Machine

/-- `RSVD_0` (R256, R265). Opcode 0x0: accepted, nothing drawn, no register but the command register changes. -/
def execOpRsvd0 (rest : BitVec 28) (s : State) : Host.Outcome State Fault Refusal :=
  .next (s.setCommand (commandWord s.cfg.cmdLayout 0x0 rest))

/-- `RSVD_1` (R256, R265). Opcode 0x1: accepted, nothing drawn, no register but the command register changes. -/
def execOpRsvd1 (rest : BitVec 28) (s : State) : Host.Outcome State Fault Refusal :=
  .next (s.setCommand (commandWord s.cfg.cmdLayout 0x1 rest))

/-- `RSVD_2` (R256, R265). Opcode 0x2: accepted, nothing drawn, no register but the command register changes. -/
def execOpRsvd2 (rest : BitVec 28) (s : State) : Host.Outcome State Fault Refusal :=
  .next (s.setCommand (commandWord s.cfg.cmdLayout 0x2 rest))

/-- `LINE_READ` (R256, R261). Opcode 0x3: accepted, nothing drawn, no register but the command register changes. -/
def execOpLineRead (rest : BitVec 28) (s : State) : Host.Outcome State Fault Refusal :=
  .next (s.setCommand (commandWord s.cfg.cmdLayout 0x3 rest))

/-- `SHORT_STROKE` (R256, R262). Opcode 0x4: accepted, nothing drawn, no register but the command register changes. -/
def execOpShortStroke (rest : BitVec 28) (s : State) : Host.Outcome State Fault Refusal :=
  .next (s.setCommand (commandWord s.cfg.cmdLayout 0x4 rest))

/-- `LINE_DRAW` (R256, R221). Opcode 5: line draw. -/
def execOpLineDraw (rest : BitVec 28) (s : State) : Host.Outcome State Fault Refusal :=
  .next ((s.setCommand (commandWord s.cfg.cmdLayout 0x5 rest)).lineDraw)

/-- `RSVD_6` (R256, R265). Opcode 0x6: accepted, nothing drawn, no register but the command register changes. -/
def execOpRsvd6 (rest : BitVec 28) (s : State) : Host.Outcome State Fault Refusal :=
  .next (s.setCommand (commandWord s.cfg.cmdLayout 0x6 rest))

/-- `RSVD_7` (R256, R265). Opcode 0x7: accepted, nothing drawn, no register but the command register changes. -/
def execOpRsvd7 (rest : BitVec 28) (s : State) : Host.Outcome State Fault Refusal :=
  .next (s.setCommand (commandWord s.cfg.cmdLayout 0x7 rest))

/-- `BITBLT` (R256, R201). Opcode 8: BitBLT. -/
def execOpBitblt (rest : BitVec 28) (s : State) : Host.Outcome State Fault Refusal :=
  .next ((s.setCommand (commandWord s.cfg.cmdLayout 0x8 rest)).bitBlt)

/-- `BITBLT_INV` (R256, R263). Opcode 0x9: accepted, nothing drawn, no register but the command register changes. -/
def execOpBitbltInv (rest : BitVec 28) (s : State) : Host.Outcome State Fault Refusal :=
  .next (s.setCommand (commandWord s.cfg.cmdLayout 0x9 rest))

/-- `AREA_FILL` (R256, R264). Opcode 0xA: accepted, nothing drawn, no register but the command register changes. -/
def execOpAreaFill (rest : BitVec 28) (s : State) : Host.Outcome State Fault Refusal :=
  .next (s.setCommand (commandWord s.cfg.cmdLayout 0xA rest))

/-- `RSVD_B` (R256, R265). Opcode 0xB: accepted, nothing drawn, no register but the command register changes. -/
def execOpRsvdB (rest : BitVec 28) (s : State) : Host.Outcome State Fault Refusal :=
  .next (s.setCommand (commandWord s.cfg.cmdLayout 0xB rest))

/-- `RSVD_C` (R256, R265). Opcode 0xC: accepted, nothing drawn, no register but the command register changes. -/
def execOpRsvdC (rest : BitVec 28) (s : State) : Host.Outcome State Fault Refusal :=
  .next (s.setCommand (commandWord s.cfg.cmdLayout 0xC rest))

/-- `RSVD_D` (R256, R265). Opcode 0xD: accepted, nothing drawn, no register but the command register changes. -/
def execOpRsvdD (rest : BitVec 28) (s : State) : Host.Outcome State Fault Refusal :=
  .next (s.setCommand (commandWord s.cfg.cmdLayout 0xD rest))

/-- `RSVD_E` (R256, R265). Opcode 0xE: accepted, nothing drawn, no register but the command register changes. -/
def execOpRsvdE (rest : BitVec 28) (s : State) : Host.Outcome State Fault Refusal :=
  .next (s.setCommand (commandWord s.cfg.cmdLayout 0xE rest))

/-- `RSVD_F` (R256, R265). Opcode 0xF: accepted, nothing drawn, no register but the command register changes. -/
def execOpRsvdF (rest : BitVec 28) (s : State) : Host.Outcome State Fault Refusal :=
  .next (s.setCommand (commandWord s.cfg.cmdLayout 0xF rest))

end Sys2Proof.Machine
end

