-- ==== Sys2Proof/Machine/CompareMeanings.lean ====
section
/-! DEFINITION. The meanings of colour-compare codes (R184), each evaluated on a destination pixel (log 1). -/

namespace Sys2Proof.Machine

/-- `CC_TRUE` (R184). Compare code 0. -/
def execCcTrue (dest : Word) (s : State) : Host.Outcome State Fault Refusal :=
  .next (s.respond (.verdict (s.ccPass 0 dest)))

/-- `CC_GT` (R184). Compare code 1. -/
def execCcGt (dest : Word) (s : State) : Host.Outcome State Fault Refusal :=
  .next (s.respond (.verdict (s.ccPass 1 dest)))

/-- `CC_EQ` (R184). Compare code 2. -/
def execCcEq (dest : Word) (s : State) : Host.Outcome State Fault Refusal :=
  .next (s.respond (.verdict (s.ccPass 2 dest)))

/-- `CC_LT` (R184). Compare code 3. -/
def execCcLt (dest : Word) (s : State) : Host.Outcome State Fault Refusal :=
  .next (s.respond (.verdict (s.ccPass 3 dest)))

/-- `CC_X4` (R184). Compare code 4. -/
def execCcX4 (dest : Word) (s : State) : Host.Outcome State Fault Refusal :=
  .next (s.respond (.verdict (s.ccPass 4 dest)))

/-- `CC_GE` (R184). Compare code 5. -/
def execCcGe (dest : Word) (s : State) : Host.Outcome State Fault Refusal :=
  .next (s.respond (.verdict (s.ccPass 5 dest)))

/-- `CC_NE` (R184). Compare code 6. -/
def execCcNe (dest : Word) (s : State) : Host.Outcome State Fault Refusal :=
  .next (s.respond (.verdict (s.ccPass 6 dest)))

/-- `CC_LE` (R184). Compare code 7. -/
def execCcLe (dest : Word) (s : State) : Host.Outcome State Fault Refusal :=
  .next (s.respond (.verdict (s.ccPass 7 dest)))

end Sys2Proof.Machine
end

