-- ==== Sys2Proof/Machine/Apertures.lean ====
section
/-! DEFINITION. The two apertures (R346, R347) and the memory-mapped window (R349). -/

namespace Sys2Proof.Machine

/-- The video-memory offset of a host address inside a mapped window (R346, R347). -/
def State.apertureOffset (s : State) (addr : Nat) : Option Nat :=
  match s.mapping with
  | .unmapped => none
  | .banked base =>
    if base.toNat ≤ addr ∧ addr < base.toNat + bankedSize then
      some ((s.ext.apIdx.toNat <<< 16) + ((addr - base.toNat) &&& s.ext.bankedMask.toNat))
    else none
  | .linear base size =>
    if base.toNat ≤ addr ∧ addr < base.toNat + size then some (addr - base.toNat) else none

/-- Whether a whole access lies inside the mapped window. -/
def State.apertureWhole (s : State) (addr n : Nat) : Bool :=
  (s.apertureOffset addr).isSome && (s.apertureOffset (addr + (n - 1))).isSome

/-- A byte of an aperture read: `none` outside the mapped window (log 19). -/
def State.apertureByte (s : State) (addr : Nat) : Option Byte := (s.apertureOffset addr).map s.vramByte

/-- Write one byte through an aperture; outside the mapped window it is no event of this device (R356, log 19). -/
def State.apertureWriteByte (s : State) (addr : Nat) (v : Byte) : State :=
  match s.apertureOffset addr with
  | some off => s.vramWriteByte off v
  | none => s

/-- Write bytes through an aperture one by one. -/
def State.apertureWriteBytes (s : State) (addr : Nat) : List Byte → State
  | [] => s
  | b :: bs => (s.apertureWriteByte addr b).apertureWriteBytes (addr + 1) bs

/-- `APR(addr, len)`'s bytes (R346, R347): `VramRead` for an access inside the window; an access that is not is the host's
to split (log 19). -/
def State.apertureRead (s : State) (addr n : Nat) : List (Option Byte) :=
  match s.apertureWhole addr n, s.apertureOffset addr with
  | true, some off => (s.vramBytes off n).map some
  | _, _ => (List.range n).map (fun k => s.apertureByte (addr + k))

/-- `APW(addr, len, val)` (R346, R347). -/
def State.apertureWrite (s : State) (addr : Nat) (bs : List Byte) : State :=
  match s.apertureWhole addr bs.length, s.apertureOffset addr with
  | true, some off => s.vramWrite off bs
  | _, _ => s.apertureWriteBytes addr bs

/-- A byte of the boot ROM image (R349, log 15). -/
def State.romByte (s : State) (o : Nat) : Byte := s.cfg.rom.getD o (Config.romByte o)

/-- A byte read of the memory-mapped window (R349); beyond 0x1fff the window has ended. -/
def State.windowByte (s : State) (o : Nat) : Option Byte :=
  if o < 0x1800 then some (s.romByte o)
  else if o < 0x1880 then some (s.rdByte (o - 0x1800))
  else if o < 0x2000 then some s.cfg.oorByte
  else none

/-- A read of the memory-mapped window (R349). -/
def State.windowRead (s : State) (o n : Nat) : State :=
  s.respond (.data ((List.range n).map (fun k => s.windowByte (o + k))))

/-- A write of the memory-mapped window (R349): the bytes that fall in the register block are one `WR`; the others are
ignored. -/
def State.windowWrite (s : State) (o : Nat) (bs : List Byte) : State :=
  if o < 0x1800 then s.wrBytes 0 (bs.drop (0x1800 - o))
  else if o < 0x1880 then s.wrBytes (o - 0x1800) bs
  else s

end Sys2Proof.Machine
end

