-- ==== Sys2Proof/Machine/HostPorts.lean ====
section
/-! DEFINITION. The extended ports and their sub-registers (R341 to R345, R351, R354), and the legacy CRTC guard (R352). -/

namespace Sys2Proof.Machine

/-- The stored value of a sub-register's field, zero-extended; 0 for the two data registers (R351). -/
def subGet (e : Ext) : SubField → Word
  | .htotal => e.crtc.htotal.setWidth 32
  | .hdispend => e.crtc.hdispend.setWidth 32
  | .hblankstart => e.crtc.hblankstart.setWidth 32
  | .hsyncstart => e.crtc.hsyncstart.setWidth 32
  | .vtotal => e.crtc.vtotal.setWidth 32
  | .vdispend => e.crtc.vdispend.setWidth 32
  | .vblankstart => e.crtc.vblankstart.setWidth 32
  | .vsyncstart => e.crtc.vsyncstart.setWidth 32
  | .linecmp => e.crtc.linecmp.setWidth 32
  | .hwcX => e.hwcX.setWidth 32
  | .hwcXoff => e.hwcXoff.setWidth 32
  | .hwcY => e.hwcY.setWidth 32
  | .hwcYoff => e.hwcYoff.setWidth 32
  | .hwcEna => if e.hwcEna then 1 else 0
  | .hwcColor0 => e.hwcColor0
  | .hwcColor1 => e.hwcColor1
  | .dispAddr => e.crtc.dispAddr.setWidth 32
  | .dispPitch => e.crtc.dispPitch.setWidth 32
  | .dispMode => e.crtc.dispMode.setWidth 32
  | .clkSel => e.crtc.clkSel.setWidth 32
  | .dacAndSpriteIndex => e.dacIndex.setWidth 32
  | .spriteIndexHigh => (e.spriteIdx.extractLsb' 8 2).setWidth 32
  | .paletteData => 0
  | .spriteData => 0

/-- The extended registers with a stored field replaced, truncated to its width (R10, R343): the colours' is `OUT_BITS`
(R35). The index and data registers of R344 and R345 are in `State.subStore`. -/
def subSet (c : HostConfig) (e : Ext) (f : SubField) (v : Word) : Ext :=
  match f with
  | .htotal => { e with crtc := { e.crtc with htotal := v.setWidth 16 } }
  | .hdispend => { e with crtc := { e.crtc with hdispend := v.setWidth 16 } }
  | .hblankstart => { e with crtc := { e.crtc with hblankstart := v.setWidth 16 } }
  | .hsyncstart => { e with crtc := { e.crtc with hsyncstart := v.setWidth 16 } }
  | .vtotal => { e with crtc := { e.crtc with vtotal := v.setWidth 16 } }
  | .vdispend => { e with crtc := { e.crtc with vdispend := v.setWidth 16 } }
  | .vblankstart => { e with crtc := { e.crtc with vblankstart := v.setWidth 16 } }
  | .vsyncstart => { e with crtc := { e.crtc with vsyncstart := v.setWidth 16 } }
  | .linecmp => { e with crtc := { e.crtc with linecmp := v.setWidth 16 } }
  | .hwcX => { e with hwcX := v.setWidth 16 }
  | .hwcXoff => { e with hwcXoff := v.setWidth 6 }
  | .hwcY => { e with hwcY := v.setWidth 16 }
  | .hwcYoff => { e with hwcYoff := v.setWidth 6 }
  | .hwcEna => { e with hwcEna := v.getLsbD 0 }
  | .hwcColor0 => { e with hwcColor0 := BitVec.ofNat 32 (HostConfig.outPixel c v.toNat) }
  | .hwcColor1 => { e with hwcColor1 := BitVec.ofNat 32 (HostConfig.outPixel c v.toNat) }
  | .dispAddr => { e with crtc := { e.crtc with dispAddr := v.setWidth 24 } }
  | .dispPitch => { e with crtc := { e.crtc with dispPitch := v.setWidth 16 } }
  | .dispMode => { e with crtc := { e.crtc with dispMode := v.setWidth 8 } }
  | .clkSel => { e with crtc := { e.crtc with clkSel := v.setWidth 2 } }
  | .dacAndSpriteIndex => e
  | .spriteIndexHigh => e
  | .paletteData => e
  | .spriteData => e

/-- A write of the palette data register: red, green, then blue with the commit (R344). -/
def State.paletteWrite (s : State) (v : Byte) : State :=
  match s.ext.dacSeq with
  | .red => { s with ext := { s.ext with dacR := v, dacSeq := .green } }
  | .green => { s with ext := { s.ext with dacG := v, dacSeq := .blue } }
  | .blue =>
    { s with
      palette := Memory.write s.palette s.ext.dacIndex.toNat { r := s.ext.dacR, g := s.ext.dacG, b := v }
      ext := { s.ext with dacSeq := .red, dacIndex := s.ext.dacIndex + 1 } }

/-- A write of the sprite data register (R345). -/
def State.spriteWrite (s : State) (v : Byte) : State :=
  { s with
    spriteData := Memory.write s.spriteData s.ext.spriteIdx.toNat v
    ext := { s.ext with spriteIdx := s.ext.spriteIdx + 1 } }

/-- The store of a sub-register write (R343 to R345). -/
def State.subStore (s : State) (f : SubField) (lane : Nat) (v : Byte) : State :=
  match f with
  | .dacAndSpriteIndex =>
    { s with ext := { s.ext with
        dacIndex := v, dacSeq := .red, spriteIdx := (s.ext.spriteIdx.extractLsb' 8 2) ++ v } }
  | .spriteIndexHigh =>
    { s with ext := { s.ext with spriteIdx := (v.setWidth 2) ++ (s.ext.spriteIdx.extractLsb' 0 8) } }
  | .paletteData => s.paletteWrite v
  | .spriteData => s.spriteWrite v
  | _ => { s with ext := subSet s.cfg s.ext f (setByteLane (subGet s.ext f) lane v) }

/-- The map's entry for a sub-register index (R343). -/
def subEntry (m : ExtRegMap) (i : Nat) : Option SubEntry := m.subs.find? (fun e => decide (e.index = i))

/-- `SubWrite(i, v)` (R343): the store, then the recalculation where the map marks one. -/
def State.subWrite (s : State) (i : Nat) (v : Byte) : State :=
  match subEntry s.cfg.extRegMap i with
  | some e => if e.recalc then (s.subStore e.field e.lane v).recalc else s.subStore e.field e.lane v
  | none => s

/-- `SubRead(i)` (R351). -/
def State.subRead (s : State) (i : Nat) : Byte :=
  match subEntry s.cfg.extRegMap i with
  | some e => byteLane (subGet s.ext e.field) e.lane
  | none => 0

/-- A write through a port that reaches a field (R341, R342, R348, R354). -/
def State.portStore (s : State) (f : PortField) (v : Byte) : State :=
  match f with
  | .opMode => State.recalc { s with ext := { s.ext with crtc := { s.ext.crtc with opMode := v } } }
  | .apertureCntl => State.updateMapping { s with ext := { s.ext with apertureCntl := v } }
  | .port4 => { s with ext := { s.ext with port4 := v } }
  | .apIdx => { s with ext := { s.ext with apIdx := v } }
  | .accessMode => { s with ext := { s.ext with accessMode := v } }
  | .regIdx => { s with ext := { s.ext with regIdx := v } }
  | .data => s.subWrite s.ext.regIdx.toNat v

/-- A read through a port that reaches a field (R341, R351). -/
def State.portGet (s : State) (f : PortField) : Byte :=
  match f with
  | .opMode => s.ext.crtc.opMode
  | .apertureCntl => s.ext.apertureCntl
  | .port4 => s.ext.port4
  | .apIdx => s.ext.apIdx
  | .accessMode => s.ext.accessMode
  | .regIdx => s.ext.regIdx
  | .data => s.subRead s.ext.regIdx.toNat

/-- The field that a port reaches under an `EXT_REG_MAP`, if any (R341). -/
def portField (m : ExtRegMap) (port : BitVec 4) : Option PortField :=
  (m.ports.find? (fun e => decide (e.port = port))).map PortEntry.field

/-- `OUT(port, val)` (R341): a port without a field ignores it (D34). -/
def State.portWrite (s : State) (port : BitVec 4) (v : Byte) : State :=
  match portField s.cfg.extRegMap port with
  | some f => s.portStore f v
  | none => s

/-- `IN(port)` (R341): a port without a field reads 0 (D34). -/
def State.portRead (s : State) (port : BitVec 4) : Byte :=
  match portField s.cfg.extRegMap port with
  | some f => s.portGet f
  | none => 0

/-- Return one byte. -/
def State.respondByte (s : State) (b : Byte) : State := s.respond (.data [some b])

/-- An access to an extended port, by its number (R341). -/
def State.accessPort (s : State) (port : BitVec 4) (acc : ByteAccess) : State :=
  match acc with
  | .read => s.respondByte (s.portRead port)
  | .write v => s.portWrite port v

/-- An access to the extended port of a field, whatever its number (R341, log 31). -/
def State.accessField (s : State) (f : PortField) (acc : ByteAccess) : State :=
  match acc with
  | .read => s.respondByte (s.portGet f)
  | .write v => s.portStore f v

/-- An access to a sub-register (R343, R351). -/
def State.accessSub (s : State) (i : Nat) (acc : ByteAccess) : State :=
  match acc with
  | .read => s.respondByte (s.subRead i)
  | .write v => s.subWrite i v

/-- A write of the legacy CRTC data port under the guard of R352 (log 21). -/
def State.crtcWrite (s : State) (k v : Byte) : State :=
  if Config.crtcLocked s.legacyCrtc = true ∧ k.toNat ≤ 6 then s
  else if Config.crtcProtected s.legacyCrtc = true ∧ k.toNat = 7 then
    { s with legacyCrtc := Memory.write s.legacyCrtc 7 (Config.crtcFilter7 (s.crtcAt 7) v) }
  else { s with legacyCrtc := Memory.write s.legacyCrtc k.toNat v }

end Sys2Proof.Machine
end

