-- ==== Sys2Proof/Machine/Cursor.lean ====
section
/-! DEFINITION. The hardware cursor compositor (R320 to R328). -/

namespace Sys2Proof.Machine

/-- A 2-bit pixel code of the sprite (R323, R324). -/
def spriteCode (dat : Byte) (i : Nat) : BitVec 2 := (dat >>> (2 * (i % 4))).setWidth 2

/-- The sprite byte at a read address, modulo 1024 (R323). -/
def State.spriteByte (s : State) (a : Nat) : Byte := s.spriteAt (a % 1024)

/-- The skip offset (R322). -/
def State.cursorSkip (s : State) : Nat := if s.flags.cursorDataOn then 0 else 32

/-- The output column of sprite column 0 (R326). -/
def State.cursorX0 (s : State) : Int := sext16 s.raster.latch.x - (s.raster.latch.xoff.toNat : Int)

/-- Composite one pixel code onto an output pixel (R324). -/
def State.cursorPixel (s : State) (line : Half) (x : Nat) (code : BitVec 2) : State :=
  match code.toNat with
  | 0 => s.fbWrite line x s.ext.hwcColor0.toNat
  | 1 => s.fbWrite line x s.ext.hwcColor1.toNat
  | 2 => s
  | _ => s.fbWrite line x (s.fbRead line x ^^^ (2 ^ s.cfg.outBits - 1))

/-- Sprite column `i` of the row whose bytes begin at `a` (R321). -/
def State.cursorColumn (s : State) (line : Half) (a i : Nat) : State :=
  let col := s.cursorX0 + (i : Int)
  if i < s.cursorSkip then s
  else if 0 ≤ col ∧ col < (s.eff.hDisp : Int) then
    s.cursorPixel line col.toNat (spriteCode (s.spriteByte (a + i / 4)) i)
  else s

/-- The read pointer after a row (R325). -/
def State.cursorNextAddr (s : State) : BitVec 10 :=
  BitVec.ofNat 10 (s.raster.latch.addr.toNat + 16 + (if s.eff.interlace then 16 else 0))

/-- The 64 columns of the row at the read pointer, in order (R321). -/
def State.cursorColumns (s : State) (line : Half) : State :=
  (List.range 64).foldl (fun t i => t.cursorColumn line s.raster.latch.addr.toNat i) s

/-- Advance the read pointer (R325). -/
def State.cursorAdvance (s : State) : State :=
  s.withRaster { s.raster with latch := { s.raster.latch with addr := s.cursorNextAddr } }

/-- `CursorDraw(line)` (R321): the columns, then the pointer. -/
def State.cursorDraw (s : State) (line : Half) : State := (s.cursorColumns line).cursorAdvance

end Sys2Proof.Machine
end

