-- ==== Sys2Proof/Machine/Raster.lean ====
section
/-! DEFINITION. The CRTC timing and raster state machine (R280 to R302). -/

namespace Sys2Proof.Machine

/-- `RowBytes()` (R295). -/
def State.rowBytes (s : State) : Nat := s.eff.rowoffset * s.cfg.rowUnit

/-- A byte offset masked to video memory, as a stored address. -/
def State.maskAddr (s : State) (n : Nat) : Word := BitVec.ofNat 32 (n % HostConfig.vramSize s.cfg)

/-- The step of a counter of lines: 2 when interlaced (R286, R294). -/
def State.lineStep (s : State) : Nat := if s.eff.interlace then 2 else 1

/-- `CursorTrigger()` (R290), first field. -/
def State.cursorTriggerFirst (s : State) : State :=
  let l := s.raster.latch
  if l.ena = true ∧ (s.raster.displine.toNat : Int) = sext16 l.y then
    s.withRaster { s.raster with
      hwcursorOn := BitVec.ofNat 7 (64 - l.yoff.toNat)
      hwcursorOddeven := false
      latch := { l with addr := BitVec.ofNat 10 (l.yoff.toNat * 16) } }
  else s

/-- `CursorTrigger()` (R290), secondary field in interlaced mode. For `L.y` = -1 the rule's pseudocode fires on line 0, and
its last sentence says that a cursor whose `L.y` is negative never triggers; the model follows the pseudocode (DESIGN
CHOICE, log 38). -/
def State.cursorTriggerSecond (s : State) : State :=
  let l := s.raster.latch
  if l.ena = true ∧ s.eff.interlace = true ∧ (s.raster.displine.toNat : Int) = sext16 l.y + 1 then
    s.withRaster { s.raster with
      hwcursorOn := BitVec.ofNat 7 (64 - (l.yoff.toNat + 1))
      hwcursorOddeven := true
      latch := { l with addr := BitVec.ofNat 10 ((l.yoff.toNat + 1) * 16) } }
  else s

/-- `CursorTrigger()` (R290). -/
def State.cursorTrigger (s : State) : State := s.cursorTriggerFirst.cursorTriggerSecond

/-- First-line marking and buffer synchronisation (R286). -/
def State.markFirstLine (s : State) : State :=
  if s.raster.firstline = s.cfg.firstlineNone then
    (s.withRaster { s.raster with firstline := s.raster.displine }).emit .waitForBuffer
  else s

/-- The page of `ma` (R291, R292). -/
def State.maPage (s : State) : Nat := s.raster.ma.toNat >>> Config.pageShift

/-- Cursor lines are marked dirty (R291). -/
def State.stampCursorLine (s : State) : State :=
  if 0 < s.raster.hwcursorOn.toNat then (s.stampPage s.maPage).stampPage (s.maPage + 1) else s

/-- The renderer's gate (R292). -/
def State.renderGate (s : State) : Bool :=
  decide (s.dirty s.maPage ≠ 0) || decide (s.dirty (s.maPage + 1) ≠ 0) || decide (s.raster.fullchange ≠ 0)

/-- What output pixel `i` of the current scan line takes, `OUT_BITS` bits of it (R292). -/
def State.renderPixel (s : State) (i : Nat) : Pixel :=
  let ma := s.raster.ma.toNat
  if s.eff.bpp16 then Config.rgb565 s.cfg.outBits (half2 (s.vramWrapped (ma + 2 * i)) (s.vramWrapped (ma + 2 * i + 1)))
  else Config.pal s.cfg.outBits (s.vramWrapped (ma + i)) (s.paletteAt (s.vramWrapped (ma + i)).toNat)

/-- Write the pixels of the current scan line (R292). -/
def State.renderPixels (s : State) : State :=
  (List.range s.eff.hDisp).foldl (fun t i => t.fbWrite s.raster.displine i (s.renderPixel i)) s

/-- The draw markers (R292). R292 writes the sentinel of `firstline_draw` as 2000, and R7 gives the parameter `FIRSTLINE_NONE`
for `firstline`; the model takes the parameter for both (DESIGN CHOICE, log 39). -/
def State.markDrawn (s : State) : State :=
  s.withRaster { s.raster with
    firstlineDraw := if s.raster.firstlineDraw = s.cfg.firstlineNone then s.raster.displine else s.raster.firstlineDraw
    lastlineDraw := s.raster.displine }

/-- `RenderLine()` (R292). -/
def State.renderLine (s : State) : State := if s.renderGate then s.markDrawn.renderPixels else s

/-- The address advance after `RenderLine`, whether or not it drew (R293). -/
def State.advanceMa (s : State) : State :=
  s.withRaster { s.raster with
    ma := s.maskAddr (s.raster.ma.toNat + s.eff.hDisp * (if s.eff.bpp16 then 2 else 1)) }

/-- The cursor on a displayed line (R286). -/
def State.drawCursorLine (s : State) : State :=
  if 0 < s.raster.hwcursorOn.toNat then
    let t := s.cursorDraw s.raster.displine
    t.withRaster { t.raster with hwcursorOn := BitVec.ofNat 7 (s.raster.hwcursorOn.toNat - s.lineStep) }
  else s

/-- The last rendered line (R286). -/
def State.markLastLine (s : State) : State :=
  if s.raster.lastline.toNat < s.raster.displine.toNat then
    s.withRaster { s.raster with lastline := s.raster.displine }
  else s

/-- The displayed part of an active line (R286). -/
def State.displayLine (s : State) : State :=
  s.markFirstLine.stampCursorLine.renderLine.advanceMa.drawCursorLine.markLastLine

/-- The advance of `displine` (R294). -/
def State.advanceDispline (s : State) : State :=
  s.withRaster { s.raster with displine := BitVec.ofNat 16 (s.raster.displine.toNat + s.lineStep) }

/-- Replace `linepos` (R280). -/
def State.setLinepos (s : State) (b : Bool) : State := s.withRaster { s.raster with linepos := b }

/-- The part of an active line that `dispon` gates (R286). -/
def State.displayIfOn (s : State) : State := if s.raster.dispon then s.displayLine else s

/-- `EnterActiveLine()` (R286). -/
def State.enterActiveLine (s : State) : State := (s.cursorTrigger.setLinepos true).displayIfOn.advanceDispline

/-- `AtSplit()` (R296). -/
def State.atSplit (s : State) : State :=
  let m : Word := if s.eff.interlace && s.raster.oddeven then BitVec.ofNat 32 s.rowBytes else 0
  s.withRaster { s.raster with maback := m, ma := m, sc := 0 }

/-- A counter after one display end (R297). -/
def decayCounter (c : Byte) : Byte := if c = 0 then 0 else c - 1

/-- One listed page's counter decays (R297); a counter that reads as an unlisted one is not listed. -/
def decayCell (c : Host.Cell) : Option Host.Cell :=
  if decayCounter c.2 = Counters.unlisted then none else some (c.1, decayCounter c.2)

/-- `AtDisplayEnd()` (R297): every counter above 0 goes down by one; a counter that reaches 0 is unlisted. -/
def State.atDisplayEnd (s : State) : State :=
  { s with
    changedvram := s.changedvram.filterMap decayCell
    raster := { s.raster with
      dispon := false
      fullchange := decayCounter s.raster.fullchange } }

/-- Height of the visible image (R299). -/
def State.blitHeight (s : State) : Int :=
  if s.raster.firstline = s.cfg.firstlineNone then 0
  else (s.raster.lastline.toNat : Int) - (s.raster.firstline.toNat : Int) + 1

/-- `AtVsync()` (R298, R299); `FIRSTLINE_NONE` resets both first-line fields (DESIGN CHOICE for `firstline_draw`, log 39). -/
def State.atVsync (s : State) : State :=
  let odd := !s.raster.oddeven
  let m := s.maskAddr (if s.eff.interlace && odd then s.eff.maLatch + s.rowBytes else s.eff.maLatch)
  (s.emit (.blit s.eff.hDisp s.blitHeight)).withRaster { s.raster with
    dispon := false
    firstline := s.cfg.firstlineNone, lastline := 0
    firstlineDraw := s.cfg.firstlineNone, lastlineDraw := 0
    oddeven := odd
    changeframecount := if s.eff.interlace then 3 else 2
    maback := m, ma := m }

/-- `AtTotal()`, the top of frame (R300): the counters, and the cursor registers latched. -/
def State.atTotal (s : State) : State :=
  s.withRaster { s.raster with
    vc := 0
    sc := 0
    dispon := true
    displine := if s.eff.interlace && s.raster.oddeven then 1 else 0
    hwcursorOn := 0
    latch := { s.raster.latch with
      x := s.ext.hwcX, y := s.ext.hwcY, xoff := s.ext.hwcXoff, yoff := s.ext.hwcYoff, ena := s.ext.hwcEna } }

/-- The row counter and the line address of a displayed line (R295). -/
def State.advanceRow (s : State) : State :=
  if s.raster.dispon then
    if s.raster.sc.toNat = s.eff.rowcount then
      let m := s.maskAddr (s.raster.maback.toNat + s.rowBytes * s.lineStep)
      s.withRaster { s.raster with sc := 0, maback := m, ma := m }
    else s.withRaster { s.raster with sc := s.raster.sc + 1, ma := s.raster.maback }
  else s

/-- Run an action where the vertical counter equals a threshold (R295). -/
def State.atThreshold (s : State) (threshold : Nat) (act : State → State) : State :=
  if s.raster.vc.toNat = threshold then act s else s

/-- The advance of the vertical counter, modulo 2048 (R295). -/
def State.advanceVc (s : State) : State := s.withRaster { s.raster with vc := s.raster.vc + 1 }

/-- The split threshold (R296). -/
def State.testSplit (s : State) : State := s.atThreshold s.eff.split State.atSplit

/-- The display-end threshold (R297). -/
def State.testDisplayEnd (s : State) : State := s.atThreshold s.eff.dispend State.atDisplayEnd

/-- The vertical-sync threshold (R298). -/
def State.testVsync (s : State) : State := s.atThreshold s.eff.vSyncstart State.atVsync

/-- The top-of-frame threshold (R300). -/
def State.testTotal (s : State) : State := s.atThreshold s.eff.vTotal State.atTotal

/-- `EnterBlankLine()` (R295): the four thresholds are tested in order, independently of one another, with the incremented
`vc`, which no action before the last changes. -/
def State.enterBlankLine (s : State) : State :=
  (s.setLinepos false).advanceRow.advanceVc.testSplit.testDisplayEnd.testVsync.testTotal

/-- `TICK()` (R285): while `on` is false the machine does not run (R46, R377, log 18). -/
def State.tick (s : State) : State :=
  if s.flags.on then
    if s.raster.linepos then s.enterBlankLine else s.enterActiveLine
  else s

end Sys2Proof.Machine
end

