-- ==== Sys2Proof/Machine/EventMeanings.lean ====
section
/-! DEFINITION. The meanings of the host events (R100). -/

namespace Sys2Proof.Machine

/-- `WR` (R253). A write of the accelerator register block, with its triggers. -/
def execWr (off : BitVec 7) (len : Len) (val : Word) (s : State) : Host.Outcome State Fault Refusal :=
  .next (s.wr off.toNat len val)

/-- `RD` (R259). A read of the accelerator register block. -/
def execRd (off : BitVec 7) (len : Len) (s : State) : Host.Outcome State Fault Refusal :=
  .next (s.rd off.toNat len)

/-- `CMD` (R256). The command trigger: the command register as it stands after the merge, then the dispatch (log 30). -/
def execCmd (word : Word) (s : State) : Host.Outcome State Fault Refusal :=
  .next ((s.setCommand word).commandTrigger)

/-- `SSV` (R236). The short-stroke trigger (log 30). -/
def execSsv (word : Word) (s : State) : Host.Outcome State Fault Refusal :=
  .next ((s.setShortStroke word).shortStrokeTrigger)

/-- `OUT` (R341). A write of an extended port. -/
def execOut (port : BitVec 4) (val : Byte) (s : State) : Host.Outcome State Fault Refusal :=
  .next (s.portWrite port val)

/-- `IN` (R341). A read of an extended port. -/
def execInp (port : BitVec 4) (s : State) : Host.Outcome State Fault Refusal :=
  .next (s.respondByte (s.portRead port))

/-- `APW` (R346). An aperture write. -/
def execApw (addr : Word) (len : Len) (val : Word) (s : State) : Host.Outcome State Fault Refusal :=
  .next (s.apertureWrite addr.toNat (bytesOf val len.bytes))

/-- `APR` (R347). An aperture read. -/
def execApr (addr : Word) (len : Len) (s : State) : Host.Outcome State Fault Refusal :=
  .next (s.respond (.data (s.apertureRead addr.toNat len.bytes)))

/-- `MMR` (R349). A read of the boot ROM alias. -/
def execMmr (off : BitVec 13) (s : State) : Host.Outcome State Fault Refusal :=
  .next (s.windowRead off.toNat 1)

/-- `TICK` (R285). The raster timer tick. -/
def execTick (s : State) : Host.Outcome State Fault Refusal := .next s.tick

end Sys2Proof.Machine
end

