-- ==== Sys2Proof/Machine/FieldMeanings.lean ====
section
/-! DEFINITION. The meanings of command field values (R104 to R107, R117, R182, R183), each evaluated alone (log 1). -/

namespace Sys2Proof.Machine

/-- `DM_EVERY` (R182). Draw mode 0: whether a step is admitted. -/
def execDmEvery (firstCol : Bool) (firstRow : Bool) (s : State) : Host.Outcome State Fault Refusal :=
  .next (s.respond (.verdict (drawModeAdmits 0 firstCol firstRow)))

/-- `DM_NOT_FIRST_COL` (R182). Draw mode 1: whether a step is admitted. -/
def execDmNotFirstCol (firstCol : Bool) (firstRow : Bool) (s : State) : Host.Outcome State Fault Refusal :=
  .next (s.respond (.verdict (drawModeAdmits 1 firstCol firstRow)))

/-- `DM_NOT_FIRST_ROW` (R182). Draw mode 2: whether a step is admitted. -/
def execDmNotFirstRow (firstCol : Bool) (firstRow : Bool) (s : State) : Host.Outcome State Fault Refusal :=
  .next (s.respond (.verdict (drawModeAdmits 2 firstCol firstRow)))

/-- `DM_3` (R182). Draw mode 3: whether a step is admitted. -/
def execDm3 (firstCol : Bool) (firstRow : Bool) (s : State) : Host.Outcome State Fault Refusal :=
  .next (s.respond (.verdict (drawModeAdmits 3 firstCol firstRow)))

/-- `CLIP_OFF` (R183). Mask mode 0: whether a destination coordinate passes the clip. -/
def execClipOff (dx : Word) (dy : Word) (s : State) : Host.Outcome State Fault Refusal :=
  .next (s.respond (.verdict (s.clipPass 0 dx.toInt dy.toInt)))

/-- `CLIP_ON_1` (R183). Mask mode 1: whether a destination coordinate passes the clip. -/
def execClipOn1 (dx : Word) (dy : Word) (s : State) : Host.Outcome State Fault Refusal :=
  .next (s.respond (.verdict (s.clipPass 1 dx.toInt dy.toInt)))

/-- `CLIP_ON_2` (R183). Mask mode 2: whether a destination coordinate passes the clip. -/
def execClipOn2 (dx : Word) (dy : Word) (s : State) : Host.Outcome State Fault Refusal :=
  .next (s.respond (.verdict (s.clipPass 2 dx.toInt dy.toInt)))

/-- `CLIP_ON_3` (R183). Mask mode 3: whether a destination coordinate passes the clip. -/
def execClipOn3 (dx : Word) (dy : Word) (s : State) : Host.Outcome State Fault Refusal :=
  .next (s.respond (.verdict (s.clipPass 3 dx.toInt dy.toInt)))

/-- `OCT_0` (R104). Octant 0: the two directions and the major axis. -/
def execOct0 (s : State) : Host.Outcome State Fault Refusal :=
  .next (s.respond (.directions (octantXdir 0) (octantYdir 0) (octantYmajor 0)))

/-- `OCT_1` (R104). Octant 1: the two directions and the major axis. -/
def execOct1 (s : State) : Host.Outcome State Fault Refusal :=
  .next (s.respond (.directions (octantXdir 1) (octantYdir 1) (octantYmajor 1)))

/-- `OCT_2` (R104). Octant 2: the two directions and the major axis. -/
def execOct2 (s : State) : Host.Outcome State Fault Refusal :=
  .next (s.respond (.directions (octantXdir 2) (octantYdir 2) (octantYmajor 2)))

/-- `OCT_3` (R104). Octant 3: the two directions and the major axis. -/
def execOct3 (s : State) : Host.Outcome State Fault Refusal :=
  .next (s.respond (.directions (octantXdir 3) (octantYdir 3) (octantYmajor 3)))

/-- `OCT_4` (R104). Octant 4: the two directions and the major axis. -/
def execOct4 (s : State) : Host.Outcome State Fault Refusal :=
  .next (s.respond (.directions (octantXdir 4) (octantYdir 4) (octantYmajor 4)))

/-- `OCT_5` (R104). Octant 5: the two directions and the major axis. -/
def execOct5 (s : State) : Host.Outcome State Fault Refusal :=
  .next (s.respond (.directions (octantXdir 5) (octantYdir 5) (octantYmajor 5)))

/-- `OCT_6` (R104). Octant 6: the two directions and the major axis. -/
def execOct6 (s : State) : Host.Outcome State Fault Refusal :=
  .next (s.respond (.directions (octantXdir 6) (octantYdir 6) (octantYmajor 6)))

/-- `OCT_7` (R104). Octant 7: the two directions and the major axis. -/
def execOct7 (s : State) : Host.Outcome State Fault Refusal :=
  .next (s.respond (.directions (octantXdir 7) (octantYdir 7) (octantYmajor 7)))

/-- `FG_SRC_COLOR_0` (R117). Foreground source select 0: the source operand. -/
def execFgSrcColor0 (srcSel : BitVec 4) (sx : Word) (sy : Word) (s : State) : Host.Outcome State Fault Refusal :=
  .next ((s.fgSource 0 srcSel sx.toInt sy.toInt).2.respond (.value (s.fgSource 0 srcSel sx.toInt sy.toInt).1))

/-- `FG_SRC_COLOR_1` (R117). Foreground source select 1: the source operand. -/
def execFgSrcColor1 (srcSel : BitVec 4) (sx : Word) (sy : Word) (s : State) : Host.Outcome State Fault Refusal :=
  .next ((s.fgSource 1 srcSel sx.toInt sy.toInt).2.respond (.value (s.fgSource 1 srcSel sx.toInt sy.toInt).1))

/-- `FG_SRC_MAP` (R117). Foreground source select 2: the source operand. -/
def execFgSrcMap (srcSel : BitVec 4) (sx : Word) (sy : Word) (s : State) : Host.Outcome State Fault Refusal :=
  .next ((s.fgSource 2 srcSel sx.toInt sy.toInt).2.respond (.value (s.fgSource 2 srcSel sx.toInt sy.toInt).1))

/-- `FG_SRC_COLOR_3` (R117). Foreground source select 3: the source operand. -/
def execFgSrcColor3 (srcSel : BitVec 4) (sx : Word) (sy : Word) (s : State) : Host.Outcome State Fault Refusal :=
  .next ((s.fgSource 3 srcSel sx.toInt sy.toInt).2.respond (.value (s.fgSource 3 srcSel sx.toInt sy.toInt).1))

/-- `BG_SRC_COLOR_0` (R117). Background source select 0: the source operand. -/
def execBgSrcColor0 (srcSel : BitVec 4) (sx : Word) (sy : Word) (s : State) : Host.Outcome State Fault Refusal :=
  .next ((s.bgSource 0 srcSel sx.toInt sy.toInt).2.respond (.value (s.bgSource 0 srcSel sx.toInt sy.toInt).1))

/-- `BG_SRC_COLOR_1` (R117). Background source select 1: the source operand. -/
def execBgSrcColor1 (srcSel : BitVec 4) (sx : Word) (sy : Word) (s : State) : Host.Outcome State Fault Refusal :=
  .next ((s.bgSource 1 srcSel sx.toInt sy.toInt).2.respond (.value (s.bgSource 1 srcSel sx.toInt sy.toInt).1))

/-- `BG_SRC_MAP` (R117). Background source select 2: the source operand. -/
def execBgSrcMap (srcSel : BitVec 4) (sx : Word) (sy : Word) (s : State) : Host.Outcome State Fault Refusal :=
  .next ((s.bgSource 2 srcSel sx.toInt sy.toInt).2.respond (.value (s.bgSource 2 srcSel sx.toInt sy.toInt).1))

/-- `BG_SRC_COLOR_3` (R117). Background source select 3: the source operand. -/
def execBgSrcColor3 (srcSel : BitVec 4) (sx : Word) (sy : Word) (s : State) : Host.Outcome State Fault Refusal :=
  .next ((s.bgSource 3 srcSel sx.toInt sy.toInt).2.respond (.value (s.bgSource 3 srcSel sx.toInt sy.toInt).1))

/-- `PAT_NONE` (R107). Pattern selector 8: no pattern, every step takes the foreground path. -/
def execPatNone (s : State) : Host.Outcome State Fault Refusal :=
  .next (s.respond (.verdict true))

/-- `PAT_MAP` (R107). A pattern map: the mix its pixel selects. -/
def execPatMap (sel : BitVec 4) (px : Word) (py : Word) (s : State) : Host.Outcome State Fault Refusal :=
  .next ((s.readPixel (selectMap sel) px.toInt py.toInt).2.respond
    (.verdict (decide ((s.readPixel (selectMap sel) px.toInt py.toInt).1 ≠ 0))))

/-- `SRC_MAP_SEL` (R107). The source map of a selector. -/
def execSrcMapSel (sel : BitVec 4) (s : State) : Host.Outcome State Fault Refusal :=
  .next (s.respond (.mapIndex (selectMap sel)))

/-- `DST_MAP_SEL` (R107). The destination map of a selector. -/
def execDstMapSel (sel : BitVec 4) (s : State) : Host.Outcome State Fault Refusal :=
  .next (s.respond (.mapIndex (selectMap sel)))

end Sys2Proof.Machine
end

