-- ==== Sys2Proof/Machine/FormatMeanings.lean ====
section
/-! DEFINITION. The meanings of pixel formats (R134 to R139): `read_pixel` and `write_pixel` at that depth (log 28). -/

namespace Sys2Proof.Machine

/-- `PF_1` (R134). Depth code 0. -/
def execPf1 (packed : Bool) (acc : PixAccess) (s : State) : Host.Outcome State Fault Refusal :=
  .next (s.accessPixel (formatCode packed 0) acc)

/-- `PF_RSVD_1` (R139). Depth code 1. -/
def execPfRsvd1 (packed : Bool) (acc : PixAccess) (s : State) : Host.Outcome State Fault Refusal :=
  .next (s.accessPixel (formatCode packed 1) acc)

/-- `PF_RSVD_2` (R139). Depth code 2. -/
def execPfRsvd2 (packed : Bool) (acc : PixAccess) (s : State) : Host.Outcome State Fault Refusal :=
  .next (s.accessPixel (formatCode packed 2) acc)

/-- `PF_8` (R136). Depth code 3. -/
def execPf8 (packed : Bool) (acc : PixAccess) (s : State) : Host.Outcome State Fault Refusal :=
  .next (s.accessPixel (formatCode packed 3) acc)

/-- `PF_16` (R137). Depth code 4. -/
def execPf16 (packed : Bool) (acc : PixAccess) (s : State) : Host.Outcome State Fault Refusal :=
  .next (s.accessPixel (formatCode packed 4) acc)

/-- `PF_RSVD_5` (R139). Depth code 5. -/
def execPfRsvd5 (packed : Bool) (acc : PixAccess) (s : State) : Host.Outcome State Fault Refusal :=
  .next (s.accessPixel (formatCode packed 5) acc)

/-- `PF_RSVD_6` (R139). Depth code 6. -/
def execPfRsvd6 (packed : Bool) (acc : PixAccess) (s : State) : Host.Outcome State Fault Refusal :=
  .next (s.accessPixel (formatCode packed 6) acc)

/-- `PF_RSVD_7` (R139). Depth code 7. -/
def execPfRsvd7 (packed : Bool) (acc : PixAccess) (s : State) : Host.Outcome State Fault Refusal :=
  .next (s.accessPixel (formatCode packed 7) acc)

end Sys2Proof.Machine
end

