-- ==== Sys2Proof/Machine/MixMeanings.lean ====
section
/-! DEFINITION. The meanings of mix codes (R151 to R173), each evaluated on its two operands (log 1). -/

namespace Sys2Proof.Machine

/-- `CLEAR` (R151). Mix code 0x00. -/
def execRopClear (d : Word) (s : Word) (st : State) : Host.Outcome State Fault Refusal :=
  .next (st.respond (.value (ropClear d s)))

/-- `AND` (R152). Mix code 0x01. -/
def execRopAnd (d : Word) (s : Word) (st : State) : Host.Outcome State Fault Refusal :=
  .next (st.respond (.value (ropAnd d s)))

/-- `AND_NOT` (R153). Mix code 0x02. -/
def execRopAndNot (d : Word) (s : Word) (st : State) : Host.Outcome State Fault Refusal :=
  .next (st.respond (.value (ropAndNot d s)))

/-- `SRC` (R154). Mix code 0x03. -/
def execRopSrc (d : Word) (s : Word) (st : State) : Host.Outcome State Fault Refusal :=
  .next (st.respond (.value (ropSrc d s)))

/-- `NOT_AND` (R155). Mix code 0x04. -/
def execRopNotAnd (d : Word) (s : Word) (st : State) : Host.Outcome State Fault Refusal :=
  .next (st.respond (.value (ropNotAnd d s)))

/-- `NOP` (R156). Mix code 0x05. -/
def execRopNop (d : Word) (s : Word) (st : State) : Host.Outcome State Fault Refusal :=
  .next (st.respond (.value (ropNop d s)))

/-- `XOR` (R157). Mix code 0x06. -/
def execRopXor (d : Word) (s : Word) (st : State) : Host.Outcome State Fault Refusal :=
  .next (st.respond (.value (ropXor d s)))

/-- `OR` (R158). Mix code 0x07. -/
def execRopOr (d : Word) (s : Word) (st : State) : Host.Outcome State Fault Refusal :=
  .next (st.respond (.value (ropOr d s)))

/-- `NOR` (R159). Mix code 0x08. -/
def execRopNor (d : Word) (s : Word) (st : State) : Host.Outcome State Fault Refusal :=
  .next (st.respond (.value (ropNor d s)))

/-- `XNOR` (R160). Mix code 0x09. -/
def execRopXnor (d : Word) (s : Word) (st : State) : Host.Outcome State Fault Refusal :=
  .next (st.respond (.value (ropXnor d s)))

/-- `NOT_DEST` (R161). Mix code 0x0A. -/
def execRopNotDest (d : Word) (s : Word) (st : State) : Host.Outcome State Fault Refusal :=
  .next (st.respond (.value (ropNotDest d s)))

/-- `OR_NOT` (R162). Mix code 0x0B. -/
def execRopOrNot (d : Word) (s : Word) (st : State) : Host.Outcome State Fault Refusal :=
  .next (st.respond (.value (ropOrNot d s)))

/-- `NOT_SRC` (R163). Mix code 0x0C. -/
def execRopNotSrc (d : Word) (s : Word) (st : State) : Host.Outcome State Fault Refusal :=
  .next (st.respond (.value (ropNotSrc d s)))

/-- `NOT_OR_DEST` (R164). Mix code 0x0D. -/
def execRopNotOrDest (d : Word) (s : Word) (st : State) : Host.Outcome State Fault Refusal :=
  .next (st.respond (.value (ropNotOrDest d s)))

/-- `NAND` (R165). Mix code 0x0E. -/
def execRopNand (d : Word) (s : Word) (st : State) : Host.Outcome State Fault Refusal :=
  .next (st.respond (.value (ropNand d s)))

/-- `SET` (R166). Mix code 0x0F. -/
def execRopSet (d : Word) (s : Word) (st : State) : Host.Outcome State Fault Refusal :=
  .next (st.respond (.value (ropSet d s)))

/-- `MAX` (R167). Mix code 0x10. -/
def execRopMax (d : Word) (s : Word) (st : State) : Host.Outcome State Fault Refusal :=
  .next (st.respond (.value (ropMax d s)))

/-- `MIN` (R168). Mix code 0x11. -/
def execRopMin (d : Word) (s : Word) (st : State) : Host.Outcome State Fault Refusal :=
  .next (st.respond (.value (ropMin d s)))

/-- `ADD_SAT` (R169). Mix code 0x12. -/
def execRopAddSat (d : Word) (s : Word) (st : State) : Host.Outcome State Fault Refusal :=
  .next (st.respond (.value (ropAddSat d s)))

/-- `SUB_SAT_DS` (R170). Mix code 0x13. -/
def execRopSubSatDs (d : Word) (s : Word) (st : State) : Host.Outcome State Fault Refusal :=
  .next (st.respond (.value (ropSubSatDs d s)))

/-- `SUB_SAT_SD` (R171). Mix code 0x14. -/
def execRopSubSatSd (d : Word) (s : Word) (st : State) : Host.Outcome State Fault Refusal :=
  .next (st.respond (.value (ropSubSatSd d s)))

/-- `AVG` (R172). Mix code 0x15. -/
def execRopAvg (d : Word) (s : Word) (st : State) : Host.Outcome State Fault Refusal :=
  .next (st.respond (.value (ropAvg d s)))

/-- `MIX_UNDEF_16` (R173). Mix code 0x16. -/
def execRopMixUndef16 (d : Word) (s : Word) (st : State) : Host.Outcome State Fault Refusal :=
  .next (st.respond (.value (ropUndef d s)))

/-- `MIX_UNDEF_17` (R173). Mix code 0x17. -/
def execRopMixUndef17 (d : Word) (s : Word) (st : State) : Host.Outcome State Fault Refusal :=
  .next (st.respond (.value (ropUndef d s)))

/-- `MIX_UNDEF_18` (R173). Mix code 0x18. -/
def execRopMixUndef18 (d : Word) (s : Word) (st : State) : Host.Outcome State Fault Refusal :=
  .next (st.respond (.value (ropUndef d s)))

/-- `MIX_UNDEF_19` (R173). Mix code 0x19. -/
def execRopMixUndef19 (d : Word) (s : Word) (st : State) : Host.Outcome State Fault Refusal :=
  .next (st.respond (.value (ropUndef d s)))

/-- `MIX_UNDEF_1A` (R173). Mix code 0x1A. -/
def execRopMixUndef1a (d : Word) (s : Word) (st : State) : Host.Outcome State Fault Refusal :=
  .next (st.respond (.value (ropUndef d s)))

/-- `MIX_UNDEF_1B` (R173). Mix code 0x1B. -/
def execRopMixUndef1b (d : Word) (s : Word) (st : State) : Host.Outcome State Fault Refusal :=
  .next (st.respond (.value (ropUndef d s)))

/-- `MIX_UNDEF_1C` (R173). Mix code 0x1C. -/
def execRopMixUndef1c (d : Word) (s : Word) (st : State) : Host.Outcome State Fault Refusal :=
  .next (st.respond (.value (ropUndef d s)))

/-- `MIX_UNDEF_1D` (R173). Mix code 0x1D. -/
def execRopMixUndef1d (d : Word) (s : Word) (st : State) : Host.Outcome State Fault Refusal :=
  .next (st.respond (.value (ropUndef d s)))

/-- `MIX_UNDEF_1E` (R173). Mix code 0x1E. -/
def execRopMixUndef1e (d : Word) (s : Word) (st : State) : Host.Outcome State Fault Refusal :=
  .next (st.respond (.value (ropUndef d s)))

/-- `MIX_UNDEF_1F` (R173). Mix code 0x1F. -/
def execRopMixUndef1f (d : Word) (s : Word) (st : State) : Host.Outcome State Fault Refusal :=
  .next (st.respond (.value (ropUndef d s)))

end Sys2Proof.Machine
end

