-- ==== Sys2Proof/Machine/PortMeanings.lean ====
section
/-! DEFINITION. The meanings of extended ports (R341, R342). -/

namespace Sys2Proof.Machine

/-- `PORT_OP_MODE` (R341). Port 0x0 in the default map. -/
def execPortOpMode (acc : ByteAccess) (s : State) : Host.Outcome State Fault Refusal :=
  .next (s.accessField .opMode acc)

/-- `PORT_APERTURE_CNTL` (R348). Port 0x1 in the default map. -/
def execPortApertureCntl (acc : ByteAccess) (s : State) : Host.Outcome State Fault Refusal :=
  .next (s.accessField .apertureCntl acc)

/-- `PORT_NONE_2` (R341). Port 0x2. -/
def execPortNone2 (acc : ByteAccess) (s : State) : Host.Outcome State Fault Refusal :=
  .next (s.accessPort 0x2 acc)

/-- `PORT_NONE_3` (R341). Port 0x3. -/
def execPortNone3 (acc : ByteAccess) (s : State) : Host.Outcome State Fault Refusal :=
  .next (s.accessPort 0x3 acc)

/-- `PORT_PORT4` (R342). Port 0x4 in the default map. -/
def execPortPort4 (acc : ByteAccess) (s : State) : Host.Outcome State Fault Refusal :=
  .next (s.accessField .port4 acc)

/-- `PORT_NONE_5` (R341). Port 0x5. -/
def execPortNone5 (acc : ByteAccess) (s : State) : Host.Outcome State Fault Refusal :=
  .next (s.accessPort 0x5 acc)

/-- `PORT_NONE_6` (R341). Port 0x6. -/
def execPortNone6 (acc : ByteAccess) (s : State) : Host.Outcome State Fault Refusal :=
  .next (s.accessPort 0x6 acc)

/-- `PORT_NONE_7` (R341). Port 0x7. -/
def execPortNone7 (acc : ByteAccess) (s : State) : Host.Outcome State Fault Refusal :=
  .next (s.accessPort 0x7 acc)

/-- `PORT_AP_IDX` (R346). Port 0x8 in the default map. -/
def execPortApIdx (acc : ByteAccess) (s : State) : Host.Outcome State Fault Refusal :=
  .next (s.accessField .apIdx acc)

/-- `PORT_ACCESS_MODE` (R354). Port 0x9 in the default map. -/
def execPortAccessMode (acc : ByteAccess) (s : State) : Host.Outcome State Fault Refusal :=
  .next (s.accessField .accessMode acc)

/-- `PORT_REG_IDX` (R341). Port 0xA in the default map. -/
def execPortRegIdx (acc : ByteAccess) (s : State) : Host.Outcome State Fault Refusal :=
  .next (s.accessField .regIdx acc)

/-- `PORT_DATA_B` (R343). Port 0xB in the default map. -/
def execPortDataB (acc : ByteAccess) (s : State) : Host.Outcome State Fault Refusal :=
  .next (s.accessField .data acc)

/-- `PORT_DATA_C` (R343). Port 0xC in the default map. -/
def execPortDataC (acc : ByteAccess) (s : State) : Host.Outcome State Fault Refusal :=
  .next (s.accessField .data acc)

/-- `PORT_DATA_D` (R343). Port 0xD in the default map. -/
def execPortDataD (acc : ByteAccess) (s : State) : Host.Outcome State Fault Refusal :=
  .next (s.accessField .data acc)

/-- `PORT_DATA_E` (R343). Port 0xE in the default map. -/
def execPortDataE (acc : ByteAccess) (s : State) : Host.Outcome State Fault Refusal :=
  .next (s.accessField .data acc)

/-- `PORT_DATA_F` (R343). Port 0xF in the default map. -/
def execPortDataF (acc : ByteAccess) (s : State) : Host.Outcome State Fault Refusal :=
  .next (s.accessField .data acc)

end Sys2Proof.Machine
end

