-- ==== Sys2Proof/Machine/RegisterMeanings.lean ====
section
/-! DEFINITION. The meanings of accelerator registers (R252 to R259): a write or read at the register,
with its triggers (log 31). -/

namespace Sys2Proof.Machine

/-- `ACC_PX_MAP_IDX` (R252). Offset 0x12 in the default map. -/
def execAccPxMapIdx (acc : RegAccess) (s : State) : Host.Outcome State Fault Refusal :=
  .next (s.accessRegister .pxMapIdx acc)

/-- `ACC_MAP_BASE` (R252). Offset 0x14 in the default map. -/
def execAccMapBase (acc : RegAccess) (s : State) : Host.Outcome State Fault Refusal :=
  .next (s.accessRegister .mapBase acc)

/-- `ACC_MAP_WIDTH` (R252). Offset 0x18 in the default map. -/
def execAccMapWidth (acc : RegAccess) (s : State) : Host.Outcome State Fault Refusal :=
  .next (s.accessRegister .mapWidth acc)

/-- `ACC_MAP_HEIGHT` (R252). Offset 0x1A in the default map. -/
def execAccMapHeight (acc : RegAccess) (s : State) : Host.Outcome State Fault Refusal :=
  .next (s.accessRegister .mapHeight acc)

/-- `ACC_MAP_FORMAT` (R252). Offset 0x1C in the default map. -/
def execAccMapFormat (acc : RegAccess) (s : State) : Host.Outcome State Fault Refusal :=
  .next (s.accessRegister .mapFormat acc)

/-- `ACC_BRES_ERR_TERM` (R252). Offset 0x20 in the default map. -/
def execAccBresErrTerm (acc : RegAccess) (s : State) : Host.Outcome State Fault Refusal :=
  .next (s.accessRegister .bresErrTerm acc)

/-- `ACC_BRES_K1` (R252). Offset 0x24 in the default map. -/
def execAccBresK1 (acc : RegAccess) (s : State) : Host.Outcome State Fault Refusal :=
  .next (s.accessRegister .bresK1 acc)

/-- `ACC_BRES_K2` (R252). Offset 0x28 in the default map. -/
def execAccBresK2 (acc : RegAccess) (s : State) : Host.Outcome State Fault Refusal :=
  .next (s.accessRegister .bresK2 acc)

/-- `ACC_SHORT_STROKE` (R252). Offset 0x2C in the default map. -/
def execAccShortStroke (acc : RegAccess) (s : State) : Host.Outcome State Fault Refusal :=
  .next (s.accessRegister .shortStroke acc)

/-- `ACC_FRGD_MIX` (R252). Offset 0x48 in the default map. -/
def execAccFrgdMix (acc : RegAccess) (s : State) : Host.Outcome State Fault Refusal :=
  .next (s.accessRegister .frgdMix acc)

/-- `ACC_BKGD_MIX` (R252). Offset 0x49 in the default map. -/
def execAccBkgdMix (acc : RegAccess) (s : State) : Host.Outcome State Fault Refusal :=
  .next (s.accessRegister .bkgdMix acc)

/-- `ACC_CC_COND` (R252). Offset 0x4A in the default map. -/
def execAccCcCond (acc : RegAccess) (s : State) : Host.Outcome State Fault Refusal :=
  .next (s.accessRegister .ccCond acc)

/-- `ACC_COLOR_CMP` (R252). Offset 0x4C in the default map. -/
def execAccColorCmp (acc : RegAccess) (s : State) : Host.Outcome State Fault Refusal :=
  .next (s.accessRegister .colorCmp acc)

/-- `ACC_PLANE_MASK` (R252). Offset 0x50 in the default map. -/
def execAccPlaneMask (acc : RegAccess) (s : State) : Host.Outcome State Fault Refusal :=
  .next (s.accessRegister .planeMask acc)

/-- `ACC_FRGD_COLOR` (R252). Offset 0x58 in the default map. -/
def execAccFrgdColor (acc : RegAccess) (s : State) : Host.Outcome State Fault Refusal :=
  .next (s.accessRegister .frgdColor acc)

/-- `ACC_BKGD_COLOR` (R252). Offset 0x5C in the default map. -/
def execAccBkgdColor (acc : RegAccess) (s : State) : Host.Outcome State Fault Refusal :=
  .next (s.accessRegister .bkgdColor acc)

/-- `ACC_BLT_WIDTH` (R252). Offset 0x60 in the default map. -/
def execAccBltWidth (acc : RegAccess) (s : State) : Host.Outcome State Fault Refusal :=
  .next (s.accessRegister .bltWidth acc)

/-- `ACC_BLT_HEIGHT` (R252). Offset 0x62 in the default map. -/
def execAccBltHeight (acc : RegAccess) (s : State) : Host.Outcome State Fault Refusal :=
  .next (s.accessRegister .bltHeight acc)

/-- `ACC_MASK_MAP_ORIGIN_X_OFF` (R252). Offset 0x6C in the default map. -/
def execAccMaskMapOriginXOff (acc : RegAccess) (s : State) : Host.Outcome State Fault Refusal :=
  .next (s.accessRegister .maskOriginX acc)

/-- `ACC_MASK_MAP_ORIGIN_Y_OFF` (R252). Offset 0x6E in the default map. -/
def execAccMaskMapOriginYOff (acc : RegAccess) (s : State) : Host.Outcome State Fault Refusal :=
  .next (s.accessRegister .maskOriginY acc)

/-- `ACC_SRC_MAP_X` (R252). Offset 0x70 in the default map. -/
def execAccSrcMapX (acc : RegAccess) (s : State) : Host.Outcome State Fault Refusal :=
  .next (s.accessRegister .srcMapX acc)

/-- `ACC_SRC_MAP_Y` (R252). Offset 0x72 in the default map. -/
def execAccSrcMapY (acc : RegAccess) (s : State) : Host.Outcome State Fault Refusal :=
  .next (s.accessRegister .srcMapY acc)

/-- `ACC_PAT_MAP_X` (R252). Offset 0x74 in the default map. -/
def execAccPatMapX (acc : RegAccess) (s : State) : Host.Outcome State Fault Refusal :=
  .next (s.accessRegister .patMapX acc)

/-- `ACC_PAT_MAP_Y` (R252). Offset 0x76 in the default map. -/
def execAccPatMapY (acc : RegAccess) (s : State) : Host.Outcome State Fault Refusal :=
  .next (s.accessRegister .patMapY acc)

/-- `ACC_DST_MAP_X` (R252). Offset 0x78 in the default map. -/
def execAccDstMapX (acc : RegAccess) (s : State) : Host.Outcome State Fault Refusal :=
  .next (s.accessRegister .dstMapX acc)

/-- `ACC_DST_MAP_Y` (R252). Offset 0x7A in the default map. -/
def execAccDstMapY (acc : RegAccess) (s : State) : Host.Outcome State Fault Refusal :=
  .next (s.accessRegister .dstMapY acc)

/-- `ACC_COMMAND` (R252). Offset 0x7C in the default map. -/
def execAccCommand (acc : RegAccess) (s : State) : Host.Outcome State Fault Refusal :=
  .next (s.accessRegister .command acc)

end Sys2Proof.Machine
end

