-- ==== Sys2Proof/Machine/StrokeMeanings.lean ====
section
/-! DEFINITION. The meanings of stroke bytes by direction (R118, R236 to R238): one stroke under the command
register (log 29). -/

namespace Sys2Proof.Machine

/-- `STROKE_DIR_0` (R237). Direction 0. -/
def execStrokeDir0 (draw : Bool) (len : BitVec 4) (s : State) : Host.Outcome State Fault Refusal :=
  .next (s.stroke 0 draw len)

/-- `STROKE_DIR_1` (R237). Direction 1. -/
def execStrokeDir1 (draw : Bool) (len : BitVec 4) (s : State) : Host.Outcome State Fault Refusal :=
  .next (s.stroke 1 draw len)

/-- `STROKE_DIR_2` (R237). Direction 2. -/
def execStrokeDir2 (draw : Bool) (len : BitVec 4) (s : State) : Host.Outcome State Fault Refusal :=
  .next (s.stroke 2 draw len)

/-- `STROKE_DIR_3` (R237). Direction 3. -/
def execStrokeDir3 (draw : Bool) (len : BitVec 4) (s : State) : Host.Outcome State Fault Refusal :=
  .next (s.stroke 3 draw len)

/-- `STROKE_DIR_4` (R237). Direction 4. -/
def execStrokeDir4 (draw : Bool) (len : BitVec 4) (s : State) : Host.Outcome State Fault Refusal :=
  .next (s.stroke 4 draw len)

/-- `STROKE_DIR_5` (R237). Direction 5. -/
def execStrokeDir5 (draw : Bool) (len : BitVec 4) (s : State) : Host.Outcome State Fault Refusal :=
  .next (s.stroke 5 draw len)

/-- `STROKE_DIR_6` (R237). Direction 6. -/
def execStrokeDir6 (draw : Bool) (len : BitVec 4) (s : State) : Host.Outcome State Fault Refusal :=
  .next (s.stroke 6 draw len)

/-- `STROKE_DIR_7` (R237). Direction 7. -/
def execStrokeDir7 (draw : Bool) (len : BitVec 4) (s : State) : Host.Outcome State Fault Refusal :=
  .next (s.stroke 7 draw len)

end Sys2Proof.Machine
end

