-- ==== Sys2Proof/Machine/SubRegisterMeanings.lean ====
section
/-! DEFINITION. The meanings of extended sub-registers (R343 to R345, R351), addressed directly (log 31). -/

namespace Sys2Proof.Machine

/-- `IDX_10` (R343). Index 0x10. -/
def execIdx10 (acc : ByteAccess) (s : State) : Host.Outcome State Fault Refusal :=
  .next (s.accessSub 0x10 acc)

/-- `IDX_11` (R343). Index 0x11. -/
def execIdx11 (acc : ByteAccess) (s : State) : Host.Outcome State Fault Refusal :=
  .next (s.accessSub 0x11 acc)

/-- `IDX_12` (R343). Index 0x12. -/
def execIdx12 (acc : ByteAccess) (s : State) : Host.Outcome State Fault Refusal :=
  .next (s.accessSub 0x12 acc)

/-- `IDX_13` (R343). Index 0x13. -/
def execIdx13 (acc : ByteAccess) (s : State) : Host.Outcome State Fault Refusal :=
  .next (s.accessSub 0x13 acc)

/-- `IDX_14` (R343). Index 0x14. -/
def execIdx14 (acc : ByteAccess) (s : State) : Host.Outcome State Fault Refusal :=
  .next (s.accessSub 0x14 acc)

/-- `IDX_15` (R343). Index 0x15. -/
def execIdx15 (acc : ByteAccess) (s : State) : Host.Outcome State Fault Refusal :=
  .next (s.accessSub 0x15 acc)

/-- `IDX_18` (R343). Index 0x18. -/
def execIdx18 (acc : ByteAccess) (s : State) : Host.Outcome State Fault Refusal :=
  .next (s.accessSub 0x18 acc)

/-- `IDX_19` (R343). Index 0x19. -/
def execIdx19 (acc : ByteAccess) (s : State) : Host.Outcome State Fault Refusal :=
  .next (s.accessSub 0x19 acc)

/-- `IDX_20` (R343). Index 0x20. -/
def execIdx20 (acc : ByteAccess) (s : State) : Host.Outcome State Fault Refusal :=
  .next (s.accessSub 0x20 acc)

/-- `IDX_21` (R343). Index 0x21. -/
def execIdx21 (acc : ByteAccess) (s : State) : Host.Outcome State Fault Refusal :=
  .next (s.accessSub 0x21 acc)

/-- `IDX_22` (R343). Index 0x22. -/
def execIdx22 (acc : ByteAccess) (s : State) : Host.Outcome State Fault Refusal :=
  .next (s.accessSub 0x22 acc)

/-- `IDX_23` (R343). Index 0x23. -/
def execIdx23 (acc : ByteAccess) (s : State) : Host.Outcome State Fault Refusal :=
  .next (s.accessSub 0x23 acc)

/-- `IDX_24` (R343). Index 0x24. -/
def execIdx24 (acc : ByteAccess) (s : State) : Host.Outcome State Fault Refusal :=
  .next (s.accessSub 0x24 acc)

/-- `IDX_25` (R343). Index 0x25. -/
def execIdx25 (acc : ByteAccess) (s : State) : Host.Outcome State Fault Refusal :=
  .next (s.accessSub 0x25 acc)

/-- `IDX_28` (R343). Index 0x28. -/
def execIdx28 (acc : ByteAccess) (s : State) : Host.Outcome State Fault Refusal :=
  .next (s.accessSub 0x28 acc)

/-- `IDX_29` (R343). Index 0x29. -/
def execIdx29 (acc : ByteAccess) (s : State) : Host.Outcome State Fault Refusal :=
  .next (s.accessSub 0x29 acc)

/-- `IDX_2C` (R343). Index 0x2C. -/
def execIdx2c (acc : ByteAccess) (s : State) : Host.Outcome State Fault Refusal :=
  .next (s.accessSub 0x2C acc)

/-- `IDX_2D` (R343). Index 0x2D. -/
def execIdx2d (acc : ByteAccess) (s : State) : Host.Outcome State Fault Refusal :=
  .next (s.accessSub 0x2D acc)

/-- `IDX_30` (R343). Index 0x30. -/
def execIdx30 (acc : ByteAccess) (s : State) : Host.Outcome State Fault Refusal :=
  .next (s.accessSub 0x30 acc)

/-- `IDX_31` (R343). Index 0x31. -/
def execIdx31 (acc : ByteAccess) (s : State) : Host.Outcome State Fault Refusal :=
  .next (s.accessSub 0x31 acc)

/-- `IDX_32` (R343). Index 0x32. -/
def execIdx32 (acc : ByteAccess) (s : State) : Host.Outcome State Fault Refusal :=
  .next (s.accessSub 0x32 acc)

/-- `IDX_33` (R343). Index 0x33. -/
def execIdx33 (acc : ByteAccess) (s : State) : Host.Outcome State Fault Refusal :=
  .next (s.accessSub 0x33 acc)

/-- `IDX_34` (R343). Index 0x34. -/
def execIdx34 (acc : ByteAccess) (s : State) : Host.Outcome State Fault Refusal :=
  .next (s.accessSub 0x34 acc)

/-- `IDX_35` (R343). Index 0x35. -/
def execIdx35 (acc : ByteAccess) (s : State) : Host.Outcome State Fault Refusal :=
  .next (s.accessSub 0x35 acc)

/-- `IDX_36` (R343). Index 0x36. -/
def execIdx36 (acc : ByteAccess) (s : State) : Host.Outcome State Fault Refusal :=
  .next (s.accessSub 0x36 acc)

/-- `IDX_38` (R343). Index 0x38. -/
def execIdx38 (acc : ByteAccess) (s : State) : Host.Outcome State Fault Refusal :=
  .next (s.accessSub 0x38 acc)

/-- `IDX_39` (R343). Index 0x39. -/
def execIdx39 (acc : ByteAccess) (s : State) : Host.Outcome State Fault Refusal :=
  .next (s.accessSub 0x39 acc)

/-- `IDX_3A` (R343). Index 0x3A. -/
def execIdx3a (acc : ByteAccess) (s : State) : Host.Outcome State Fault Refusal :=
  .next (s.accessSub 0x3A acc)

/-- `IDX_3B` (R343). Index 0x3B. -/
def execIdx3b (acc : ByteAccess) (s : State) : Host.Outcome State Fault Refusal :=
  .next (s.accessSub 0x3B acc)

/-- `IDX_3C` (R343). Index 0x3C. -/
def execIdx3c (acc : ByteAccess) (s : State) : Host.Outcome State Fault Refusal :=
  .next (s.accessSub 0x3C acc)

/-- `IDX_3D` (R343). Index 0x3D. -/
def execIdx3d (acc : ByteAccess) (s : State) : Host.Outcome State Fault Refusal :=
  .next (s.accessSub 0x3D acc)

/-- `IDX_40` (R343). Index 0x40. -/
def execIdx40 (acc : ByteAccess) (s : State) : Host.Outcome State Fault Refusal :=
  .next (s.accessSub 0x40 acc)

/-- `IDX_41` (R343). Index 0x41. -/
def execIdx41 (acc : ByteAccess) (s : State) : Host.Outcome State Fault Refusal :=
  .next (s.accessSub 0x41 acc)

/-- `IDX_42` (R343). Index 0x42. -/
def execIdx42 (acc : ByteAccess) (s : State) : Host.Outcome State Fault Refusal :=
  .next (s.accessSub 0x42 acc)

/-- `IDX_43` (R343). Index 0x43. -/
def execIdx43 (acc : ByteAccess) (s : State) : Host.Outcome State Fault Refusal :=
  .next (s.accessSub 0x43 acc)

/-- `IDX_44` (R343). Index 0x44. -/
def execIdx44 (acc : ByteAccess) (s : State) : Host.Outcome State Fault Refusal :=
  .next (s.accessSub 0x44 acc)

/-- `IDX_51` (R343). Index 0x51. -/
def execIdx51 (acc : ByteAccess) (s : State) : Host.Outcome State Fault Refusal :=
  .next (s.accessSub 0x51 acc)

/-- `IDX_54` (R343). Index 0x54. -/
def execIdx54 (acc : ByteAccess) (s : State) : Host.Outcome State Fault Refusal :=
  .next (s.accessSub 0x54 acc)

/-- `IDX_60` (R344). Index 0x60. -/
def execIdx60 (acc : ByteAccess) (s : State) : Host.Outcome State Fault Refusal :=
  .next (s.accessSub 0x60 acc)

/-- `IDX_61` (R345). Index 0x61. -/
def execIdx61 (acc : ByteAccess) (s : State) : Host.Outcome State Fault Refusal :=
  .next (s.accessSub 0x61 acc)

/-- `IDX_65` (R344). Index 0x65. -/
def execIdx65 (acc : ByteAccess) (s : State) : Host.Outcome State Fault Refusal :=
  .next (s.accessSub 0x65 acc)

/-- `IDX_6A` (R345). Index 0x6A. -/
def execIdx6a (acc : ByteAccess) (s : State) : Host.Outcome State Fault Refusal :=
  .next (s.accessSub 0x6A acc)

end Sys2Proof.Machine
end

