-- ==== Sys2Proof/Machine/Dispatch.lean ====
section
/-! DEFINITION. `exec`: one arm per constructor of `Instr`, each one direct call of that row's meaning. -/

namespace Sys2Proof.Machine

def exec (i : Instr) (s : State) : Host.Outcome State Fault Refusal :=
  match i with
  | .wr off len val => Sys2Proof.Machine.execWr off len val s
  | .rd off len => Sys2Proof.Machine.execRd off len s
  | .cmd word => Sys2Proof.Machine.execCmd word s
  | .ssv word => Sys2Proof.Machine.execSsv word s
  | .out port val => Sys2Proof.Machine.execOut port val s
  | .inp port => Sys2Proof.Machine.execInp port s
  | .apw addr len val => Sys2Proof.Machine.execApw addr len val s
  | .apr addr len => Sys2Proof.Machine.execApr addr len s
  | .mmr off => Sys2Proof.Machine.execMmr off s
  | .tick => Sys2Proof.Machine.execTick s
  | .opRsvd0 rest => Sys2Proof.Machine.execOpRsvd0 rest s
  | .opRsvd1 rest => Sys2Proof.Machine.execOpRsvd1 rest s
  | .opRsvd2 rest => Sys2Proof.Machine.execOpRsvd2 rest s
  | .opLineRead rest => Sys2Proof.Machine.execOpLineRead rest s
  | .opShortStroke rest => Sys2Proof.Machine.execOpShortStroke rest s
  | .opLineDraw rest => Sys2Proof.Machine.execOpLineDraw rest s
  | .opRsvd6 rest => Sys2Proof.Machine.execOpRsvd6 rest s
  | .opRsvd7 rest => Sys2Proof.Machine.execOpRsvd7 rest s
  | .opBitblt rest => Sys2Proof.Machine.execOpBitblt rest s
  | .opBitbltInv rest => Sys2Proof.Machine.execOpBitbltInv rest s
  | .opAreaFill rest => Sys2Proof.Machine.execOpAreaFill rest s
  | .opRsvdB rest => Sys2Proof.Machine.execOpRsvdB rest s
  | .opRsvdC rest => Sys2Proof.Machine.execOpRsvdC rest s
  | .opRsvdD rest => Sys2Proof.Machine.execOpRsvdD rest s
  | .opRsvdE rest => Sys2Proof.Machine.execOpRsvdE rest s
  | .opRsvdF rest => Sys2Proof.Machine.execOpRsvdF rest s
  | .dmEvery firstCol firstRow => Sys2Proof.Machine.execDmEvery firstCol firstRow s
  | .dmNotFirstCol firstCol firstRow => Sys2Proof.Machine.execDmNotFirstCol firstCol firstRow s
  | .dmNotFirstRow firstCol firstRow => Sys2Proof.Machine.execDmNotFirstRow firstCol firstRow s
  | .dm3 firstCol firstRow => Sys2Proof.Machine.execDm3 firstCol firstRow s
  | .clipOff dx dy => Sys2Proof.Machine.execClipOff dx dy s
  | .clipOn1 dx dy => Sys2Proof.Machine.execClipOn1 dx dy s
  | .clipOn2 dx dy => Sys2Proof.Machine.execClipOn2 dx dy s
  | .clipOn3 dx dy => Sys2Proof.Machine.execClipOn3 dx dy s
  | .oct0 => Sys2Proof.Machine.execOct0 s
  | .oct1 => Sys2Proof.Machine.execOct1 s
  | .oct2 => Sys2Proof.Machine.execOct2 s
  | .oct3 => Sys2Proof.Machine.execOct3 s
  | .oct4 => Sys2Proof.Machine.execOct4 s
  | .oct5 => Sys2Proof.Machine.execOct5 s
  | .oct6 => Sys2Proof.Machine.execOct6 s
  | .oct7 => Sys2Proof.Machine.execOct7 s
  | .fgSrcColor0 srcSel sx sy => Sys2Proof.Machine.execFgSrcColor0 srcSel sx sy s
  | .fgSrcColor1 srcSel sx sy => Sys2Proof.Machine.execFgSrcColor1 srcSel sx sy s
  | .fgSrcMap srcSel sx sy => Sys2Proof.Machine.execFgSrcMap srcSel sx sy s
  | .fgSrcColor3 srcSel sx sy => Sys2Proof.Machine.execFgSrcColor3 srcSel sx sy s
  | .bgSrcColor0 srcSel sx sy => Sys2Proof.Machine.execBgSrcColor0 srcSel sx sy s
  | .bgSrcColor1 srcSel sx sy => Sys2Proof.Machine.execBgSrcColor1 srcSel sx sy s
  | .bgSrcMap srcSel sx sy => Sys2Proof.Machine.execBgSrcMap srcSel sx sy s
  | .bgSrcColor3 srcSel sx sy => Sys2Proof.Machine.execBgSrcColor3 srcSel sx sy s
  | .patNone => Sys2Proof.Machine.execPatNone s
  | .patMap sel px py => Sys2Proof.Machine.execPatMap sel px py s
  | .srcMapSel sel => Sys2Proof.Machine.execSrcMapSel sel s
  | .dstMapSel sel => Sys2Proof.Machine.execDstMapSel sel s
  | .ropClear dst src => Sys2Proof.Machine.execRopClear dst src s
  | .ropAnd dst src => Sys2Proof.Machine.execRopAnd dst src s
  | .ropAndNot dst src => Sys2Proof.Machine.execRopAndNot dst src s
  | .ropSrc dst src => Sys2Proof.Machine.execRopSrc dst src s
  | .ropNotAnd dst src => Sys2Proof.Machine.execRopNotAnd dst src s
  | .ropNop dst src => Sys2Proof.Machine.execRopNop dst src s
  | .ropXor dst src => Sys2Proof.Machine.execRopXor dst src s
  | .ropOr dst src => Sys2Proof.Machine.execRopOr dst src s
  | .ropNor dst src => Sys2Proof.Machine.execRopNor dst src s
  | .ropXnor dst src => Sys2Proof.Machine.execRopXnor dst src s
  | .ropNotDest dst src => Sys2Proof.Machine.execRopNotDest dst src s
  | .ropOrNot dst src => Sys2Proof.Machine.execRopOrNot dst src s
  | .ropNotSrc dst src => Sys2Proof.Machine.execRopNotSrc dst src s
  | .ropNotOrDest dst src => Sys2Proof.Machine.execRopNotOrDest dst src s
  | .ropNand dst src => Sys2Proof.Machine.execRopNand dst src s
  | .ropSet dst src => Sys2Proof.Machine.execRopSet dst src s
  | .ropMax dst src => Sys2Proof.Machine.execRopMax dst src s
  | .ropMin dst src => Sys2Proof.Machine.execRopMin dst src s
  | .ropAddSat dst src => Sys2Proof.Machine.execRopAddSat dst src s
  | .ropSubSatDs dst src => Sys2Proof.Machine.execRopSubSatDs dst src s
  | .ropSubSatSd dst src => Sys2Proof.Machine.execRopSubSatSd dst src s
  | .ropAvg dst src => Sys2Proof.Machine.execRopAvg dst src s
  | .ropMixUndef16 dst src => Sys2Proof.Machine.execRopMixUndef16 dst src s
  | .ropMixUndef17 dst src => Sys2Proof.Machine.execRopMixUndef17 dst src s
  | .ropMixUndef18 dst src => Sys2Proof.Machine.execRopMixUndef18 dst src s
  | .ropMixUndef19 dst src => Sys2Proof.Machine.execRopMixUndef19 dst src s
  | .ropMixUndef1a dst src => Sys2Proof.Machine.execRopMixUndef1a dst src s
  | .ropMixUndef1b dst src => Sys2Proof.Machine.execRopMixUndef1b dst src s
  | .ropMixUndef1c dst src => Sys2Proof.Machine.execRopMixUndef1c dst src s
  | .ropMixUndef1d dst src => Sys2Proof.Machine.execRopMixUndef1d dst src s
  | .ropMixUndef1e dst src => Sys2Proof.Machine.execRopMixUndef1e dst src s
  | .ropMixUndef1f dst src => Sys2Proof.Machine.execRopMixUndef1f dst src s
  | .ccTrue dest => Sys2Proof.Machine.execCcTrue dest s
  | .ccGt dest => Sys2Proof.Machine.execCcGt dest s
  | .ccEq dest => Sys2Proof.Machine.execCcEq dest s
  | .ccLt dest => Sys2Proof.Machine.execCcLt dest s
  | .ccX4 dest => Sys2Proof.Machine.execCcX4 dest s
  | .ccGe dest => Sys2Proof.Machine.execCcGe dest s
  | .ccNe dest => Sys2Proof.Machine.execCcNe dest s
  | .ccLe dest => Sys2Proof.Machine.execCcLe dest s
  | .strokeDir0 draw len => Sys2Proof.Machine.execStrokeDir0 draw len s
  | .strokeDir1 draw len => Sys2Proof.Machine.execStrokeDir1 draw len s
  | .strokeDir2 draw len => Sys2Proof.Machine.execStrokeDir2 draw len s
  | .strokeDir3 draw len => Sys2Proof.Machine.execStrokeDir3 draw len s
  | .strokeDir4 draw len => Sys2Proof.Machine.execStrokeDir4 draw len s
  | .strokeDir5 draw len => Sys2Proof.Machine.execStrokeDir5 draw len s
  | .strokeDir6 draw len => Sys2Proof.Machine.execStrokeDir6 draw len s
  | .strokeDir7 draw len => Sys2Proof.Machine.execStrokeDir7 draw len s
  | .pf1 packed acc => Sys2Proof.Machine.execPf1 packed acc s
  | .pfRsvd1 packed acc => Sys2Proof.Machine.execPfRsvd1 packed acc s
  | .pfRsvd2 packed acc => Sys2Proof.Machine.execPfRsvd2 packed acc s
  | .pf8 packed acc => Sys2Proof.Machine.execPf8 packed acc s
  | .pf16 packed acc => Sys2Proof.Machine.execPf16 packed acc s
  | .pfRsvd5 packed acc => Sys2Proof.Machine.execPfRsvd5 packed acc s
  | .pfRsvd6 packed acc => Sys2Proof.Machine.execPfRsvd6 packed acc s
  | .pfRsvd7 packed acc => Sys2Proof.Machine.execPfRsvd7 packed acc s
  | .accPxMapIdx acc => Sys2Proof.Machine.execAccPxMapIdx acc s
  | .accMapBase acc => Sys2Proof.Machine.execAccMapBase acc s
  | .accMapWidth acc => Sys2Proof.Machine.execAccMapWidth acc s
  | .accMapHeight acc => Sys2Proof.Machine.execAccMapHeight acc s
  | .accMapFormat acc => Sys2Proof.Machine.execAccMapFormat acc s
  | .accBresErrTerm acc => Sys2Proof.Machine.execAccBresErrTerm acc s
  | .accBresK1 acc => Sys2Proof.Machine.execAccBresK1 acc s
  | .accBresK2 acc => Sys2Proof.Machine.execAccBresK2 acc s
  | .accShortStroke acc => Sys2Proof.Machine.execAccShortStroke acc s
  | .accFrgdMix acc => Sys2Proof.Machine.execAccFrgdMix acc s
  | .accBkgdMix acc => Sys2Proof.Machine.execAccBkgdMix acc s
  | .accCcCond acc => Sys2Proof.Machine.execAccCcCond acc s
  | .accColorCmp acc => Sys2Proof.Machine.execAccColorCmp acc s
  | .accPlaneMask acc => Sys2Proof.Machine.execAccPlaneMask acc s
  | .accFrgdColor acc => Sys2Proof.Machine.execAccFrgdColor acc s
  | .accBkgdColor acc => Sys2Proof.Machine.execAccBkgdColor acc s
  | .accBltWidth acc => Sys2Proof.Machine.execAccBltWidth acc s
  | .accBltHeight acc => Sys2Proof.Machine.execAccBltHeight acc s
  | .accMaskMapOriginXOff acc => Sys2Proof.Machine.execAccMaskMapOriginXOff acc s
  | .accMaskMapOriginYOff acc => Sys2Proof.Machine.execAccMaskMapOriginYOff acc s
  | .accSrcMapX acc => Sys2Proof.Machine.execAccSrcMapX acc s
  | .accSrcMapY acc => Sys2Proof.Machine.execAccSrcMapY acc s
  | .accPatMapX acc => Sys2Proof.Machine.execAccPatMapX acc s
  | .accPatMapY acc => Sys2Proof.Machine.execAccPatMapY acc s
  | .accDstMapX acc => Sys2Proof.Machine.execAccDstMapX acc s
  | .accDstMapY acc => Sys2Proof.Machine.execAccDstMapY acc s
  | .accCommand acc => Sys2Proof.Machine.execAccCommand acc s
  | .portOpMode acc => Sys2Proof.Machine.execPortOpMode acc s
  | .portApertureCntl acc => Sys2Proof.Machine.execPortApertureCntl acc s
  | .portNone2 acc => Sys2Proof.Machine.execPortNone2 acc s
  | .portNone3 acc => Sys2Proof.Machine.execPortNone3 acc s
  | .portPort4 acc => Sys2Proof.Machine.execPortPort4 acc s
  | .portNone5 acc => Sys2Proof.Machine.execPortNone5 acc s
  | .portNone6 acc => Sys2Proof.Machine.execPortNone6 acc s
  | .portNone7 acc => Sys2Proof.Machine.execPortNone7 acc s
  | .portApIdx acc => Sys2Proof.Machine.execPortApIdx acc s
  | .portAccessMode acc => Sys2Proof.Machine.execPortAccessMode acc s
  | .portRegIdx acc => Sys2Proof.Machine.execPortRegIdx acc s
  | .portDataB acc => Sys2Proof.Machine.execPortDataB acc s
  | .portDataC acc => Sys2Proof.Machine.execPortDataC acc s
  | .portDataD acc => Sys2Proof.Machine.execPortDataD acc s
  | .portDataE acc => Sys2Proof.Machine.execPortDataE acc s
  | .portDataF acc => Sys2Proof.Machine.execPortDataF acc s
  | .idx10 acc => Sys2Proof.Machine.execIdx10 acc s
  | .idx11 acc => Sys2Proof.Machine.execIdx11 acc s
  | .idx12 acc => Sys2Proof.Machine.execIdx12 acc s
  | .idx13 acc => Sys2Proof.Machine.execIdx13 acc s
  | .idx14 acc => Sys2Proof.Machine.execIdx14 acc s
  | .idx15 acc => Sys2Proof.Machine.execIdx15 acc s
  | .idx18 acc => Sys2Proof.Machine.execIdx18 acc s
  | .idx19 acc => Sys2Proof.Machine.execIdx19 acc s
  | .idx20 acc => Sys2Proof.Machine.execIdx20 acc s
  | .idx21 acc => Sys2Proof.Machine.execIdx21 acc s
  | .idx22 acc => Sys2Proof.Machine.execIdx22 acc s
  | .idx23 acc => Sys2Proof.Machine.execIdx23 acc s
  | .idx24 acc => Sys2Proof.Machine.execIdx24 acc s
  | .idx25 acc => Sys2Proof.Machine.execIdx25 acc s
  | .idx28 acc => Sys2Proof.Machine.execIdx28 acc s
  | .idx29 acc => Sys2Proof.Machine.execIdx29 acc s
  | .idx2c acc => Sys2Proof.Machine.execIdx2c acc s
  | .idx2d acc => Sys2Proof.Machine.execIdx2d acc s
  | .idx30 acc => Sys2Proof.Machine.execIdx30 acc s
  | .idx31 acc => Sys2Proof.Machine.execIdx31 acc s
  | .idx32 acc => Sys2Proof.Machine.execIdx32 acc s
  | .idx33 acc => Sys2Proof.Machine.execIdx33 acc s
  | .idx34 acc => Sys2Proof.Machine.execIdx34 acc s
  | .idx35 acc => Sys2Proof.Machine.execIdx35 acc s
  | .idx36 acc => Sys2Proof.Machine.execIdx36 acc s
  | .idx38 acc => Sys2Proof.Machine.execIdx38 acc s
  | .idx39 acc => Sys2Proof.Machine.execIdx39 acc s
  | .idx3a acc => Sys2Proof.Machine.execIdx3a acc s
  | .idx3b acc => Sys2Proof.Machine.execIdx3b acc s
  | .idx3c acc => Sys2Proof.Machine.execIdx3c acc s
  | .idx3d acc => Sys2Proof.Machine.execIdx3d acc s
  | .idx40 acc => Sys2Proof.Machine.execIdx40 acc s
  | .idx41 acc => Sys2Proof.Machine.execIdx41 acc s
  | .idx42 acc => Sys2Proof.Machine.execIdx42 acc s
  | .idx43 acc => Sys2Proof.Machine.execIdx43 acc s
  | .idx44 acc => Sys2Proof.Machine.execIdx44 acc s
  | .idx51 acc => Sys2Proof.Machine.execIdx51 acc s
  | .idx54 acc => Sys2Proof.Machine.execIdx54 acc s
  | .idx60 acc => Sys2Proof.Machine.execIdx60 acc s
  | .idx61 acc => Sys2Proof.Machine.execIdx61 acc s
  | .idx65 acc => Sys2Proof.Machine.execIdx65 acc s
  | .idx6a acc => Sys2Proof.Machine.execIdx6a acc s

end Sys2Proof.Machine
end

