-- ==== Sys2Proof/Machine/Delivery.lean ====
section
/-! DEFINITION. What one host event does: a row of the opcode table, an access of the memory-mapped window (R349), a flag
or a base set by the host (R46, R353), the legacy layer (R46, R352), attach and detach (R382, R390). -/

namespace Sys2Proof.Machine

/-- Take one host event whole (R15, R78). -/
def State.deliver (s : State) (e : HostEvent) : Host.Outcome State Fault Refusal :=
  match e with
  | .row bytes =>
    match decode bytes with
    | .ok (i, _) => exec i s
    | .error err => .refused (.undecodable err)
  | .windowRead off len => .next (s.windowRead off.toNat len.bytes)
  | .windowWrite off len val => .next (s.windowWrite off.toNat (bytesOf val len.bytes))
  | .setOn v => .next { s with flags := { s.flags with on := v } }
  | .setLinearEndianReverse v => .next { s with flags := { s.flags with linearEndianReverse := v } }
  | .setCursorDataOn v => .next { s with flags := { s.flags with cursorDataOn := v } }
  | .setLinearBase v => .next (State.updateMapping { s with ext := { s.ext with linearBase := v } })
  | .setBaseAddr1mb v => .next (State.updateMapping { s with ext := { s.ext with baseAddr1mb := v } })
  | .legacyVramWrite addr v =>
    if s.flags.on then .refused .legacyWriteWhileOn else .next (s.legacyWrite addr v)
  | .legacyCrtcWrite k v => .next (s.crtcWrite k v)
  | .legacyCrtcRead k => .next (s.respondByte (s.crtcAt k.toNat))
  | .attach rom linearBase baseAddr1mb cfg => .next (s.attachDevice rom linearBase baseAddr1mb cfg)
  | .detach => .next s.detachDevice

/-- Whether an event can occur while no device is attached (R371, R375, R382): only an attach can. -/
def HostEvent.isAttach : HostEvent → Bool
  | .attach _ _ _ _ => true
  | _ => false

/-- Take the next event off the inbox. -/
def State.withoutHead (s : State) : State := { s with inbox := s.inbox.tail }

end Sys2Proof.Machine
end

