-- ==== Sys2Proof/Machine/Step.lean ====
section
/-! DEFINITION. One step: the host delivers the next entry of the inbox, and the core takes it whole (R15, R78).

There is no program counter (R28): the next event is the one the host issues next, so "fetching" is taking the head of
the inbox (log 4). An empty inbox is a step in which no event occurs. -/

namespace Sys2Proof.Machine

/-- One step. -/
def step (s : State) : Host.Outcome State Fault Refusal :=
  match s.inbox with
  | [] => .next s
  | e :: _ =>
    if s.attached || HostEvent.isAttach e then s.withoutHead.deliver e else .refused .notAttached

/-- The state with a bare table word, framed (log 3), as the next event of an attached device. -/
def State.withFetchWord (s : State) (nbits w : Nat) : State :=
  { s with attached := true, inbox := .row (bytesOfTableWord nbits w) :: s.inbox }

end Sys2Proof.Machine
end

