-- ==== Sys2Proof/Safety.lean ====
section
/-! DEFINITION. What counts as a safe run, in the terms claims use: which events a host may deliver, the invariants that
every step keeps, and what a drawing primitive may change. -/

namespace Sys2Proof.Machine

/-! ## Events a host may deliver -/

/-- Whether the host may deliver an event in a state: an event's bytes are an event's (R100), and the legacy layer writes
`vram` only while `on` is false (R46, R402). -/
def HostEvent.deliverable (s : State) : HostEvent → Bool
  | .row bytes =>
    match decode bytes with
    | .ok _ => true
    | .error _ => false
  | .legacyVramWrite _ _ => !s.flags.on
  | _ => true

/-! ## Invariants -/

/-- Every store of data is in canonical form and inside its address space: `vram` (R21), `changedvram` (R22), the sprite
buffer (R23), the palette (R24), the legacy CRTC file (R352), the frame buffer (R25). -/
def State.memoriesCanonical (s : State) : Prop :=
  Memory.wf s.vram = true ∧ Memory.below s.vram (HostConfig.vramSize s.cfg) = true ∧
  Counters.wf s.changedvram = true ∧ Memory.below s.changedvram (HostConfig.guardPage s.cfg + 1) = true ∧
  Memory.wf s.spriteData = true ∧ Memory.below s.spriteData 1024 = true ∧
  Memory.wf s.palette = true ∧ Memory.below s.palette 256 = true ∧
  Memory.wf s.legacyCrtc = true ∧ Memory.below s.legacyCrtc 256 = true ∧
  Memory.wf s.fb = true

/-- While a device is attached, the windows mapped are those that `aperture_cntl` and the bases select, and the banked
window's mask is full where it is mapped (R348). -/
def State.mappingCurrent (s : State) : Prop :=
  s.attached = true →
    s.mapping = Ext.windows s.ext s.cfg.bankedBase ∧ (s.ext.apertureCntl = 1 → s.ext.bankedMask = 0xFFFF)

/-- The frame counters: a stamp lives 2 or 3 frames (R298), so no dirty counter and no force-redraw counter exceeds 3,
and the cursor shows at most its 64 rows (R290). -/
def State.countersBounded (s : State) : Prop :=
  (s.raster.changeframecount = 2 ∨ s.raster.changeframecount = 3) ∧
  s.raster.fullchange.toNat ≤ 3 ∧
  (∀ p, (s.dirty p).toNat ≤ 3) ∧
  s.raster.hwcursorOn.toNat ≤ 64

/-! ## What a primitive may change -/

/-- `t` differs from `s` at most in video memory, its dirty counters, the calls made to the host, the oracle's count, the
live iteration state, and `dst_map_x`, `dst_map_y` (R206, R225, R240, R399). -/
def State.sameButDrawing (s t : State) : Prop :=
  t = { s with
    vram := t.vram, changedvram := t.changedvram, outputs := t.outputs, sysReads := t.sysReads, live := t.live,
    acc := { s.acc with dstMapX := t.acc.dstMapX, dstMapY := t.acc.dstMapY } }

/-- Every byte of video memory that changed lies inside it, and its page holds the current frame counter (R75). -/
def State.stampedFrom (s t : State) : Prop :=
  ∀ a, t.vramAt a ≠ s.vramAt a →
    a < HostConfig.vramSize s.cfg ∧ t.dirty (a >>> Config.pageShift) = s.raster.changeframecount

/-- Every dirty counter is as it was, or was stamped with the current frame counter (R75). -/
def State.pagesFrom (s t : State) : Prop :=
  ∀ p, t.dirty p = s.dirty p ∨ (t.dirty p = s.raster.changeframecount ∧ p ≤ HostConfig.guardPage s.cfg)

/-- Every call made to the host since was a write of system memory (R77). -/
def State.onlySysWrites (s t : State) : Prop :=
  ∃ calls, t.outputs = calls ++ s.outputs ∧ ∀ o ∈ calls, ∃ a n v, o = .sysWrite a n v

/-- What a drawing primitive may do (R180, R188, R201, R221, R236). -/
def State.draws (s t : State) : Prop :=
  s.sameButDrawing t ∧ s.stampedFrom t ∧ s.pagesFrom t ∧ s.onlySysWrites t

/-! ## Rows by what they address

The constructors of a family beside the offset, port, index or code that the spec gives them. -/

/-- The accelerator registers' rows by first offset in the default map (R252). -/
def accRows : List (BitVec 7 × (RegAccess → Instr)) :=
  [(0x12, .accPxMapIdx), (0x14, .accMapBase), (0x18, .accMapWidth), (0x1A, .accMapHeight), (0x1C, .accMapFormat),
   (0x20, .accBresErrTerm), (0x24, .accBresK1), (0x28, .accBresK2), (0x2C, .accShortStroke), (0x48, .accFrgdMix),
   (0x49, .accBkgdMix), (0x4A, .accCcCond), (0x4C, .accColorCmp), (0x50, .accPlaneMask), (0x58, .accFrgdColor),
   (0x5C, .accBkgdColor), (0x60, .accBltWidth), (0x62, .accBltHeight), (0x6C, .accMaskMapOriginXOff),
   (0x6E, .accMaskMapOriginYOff), (0x70, .accSrcMapX), (0x72, .accSrcMapY), (0x74, .accPatMapX), (0x76, .accPatMapY),
   (0x78, .accDstMapX), (0x7A, .accDstMapY), (0x7C, .accCommand)]

/-- The accelerator registers' rows by register, in the order of `accRows` (R252, log 31). -/
def regRows : List (AccReg × (RegAccess → Instr)) :=
  [(.pxMapIdx, .accPxMapIdx), (.mapBase, .accMapBase), (.mapWidth, .accMapWidth), (.mapHeight, .accMapHeight),
   (.mapFormat, .accMapFormat), (.bresErrTerm, .accBresErrTerm), (.bresK1, .accBresK1), (.bresK2, .accBresK2),
   (.shortStroke, .accShortStroke), (.frgdMix, .accFrgdMix), (.bkgdMix, .accBkgdMix), (.ccCond, .accCcCond),
   (.colorCmp, .accColorCmp), (.planeMask, .accPlaneMask), (.frgdColor, .accFrgdColor), (.bkgdColor, .accBkgdColor),
   (.bltWidth, .accBltWidth), (.bltHeight, .accBltHeight), (.maskOriginX, .accMaskMapOriginXOff),
   (.maskOriginY, .accMaskMapOriginYOff), (.srcMapX, .accSrcMapX), (.srcMapY, .accSrcMapY), (.patMapX, .accPatMapX),
   (.patMapY, .accPatMapY), (.dstMapX, .accDstMapX), (.dstMapY, .accDstMapY), (.command, .accCommand)]

/-- The extended ports' rows by port in the default map (R341). -/
def portRows : List (BitVec 4 × (ByteAccess → Instr)) :=
  [(0x0, .portOpMode), (0x1, .portApertureCntl), (0x2, .portNone2), (0x3, .portNone3), (0x4, .portPort4),
   (0x5, .portNone5), (0x6, .portNone6), (0x7, .portNone7), (0x8, .portApIdx), (0x9, .portAccessMode),
   (0xA, .portRegIdx), (0xB, .portDataB), (0xC, .portDataC), (0xD, .portDataD), (0xE, .portDataE), (0xF, .portDataF)]

/-- The rows of the ports that reach a field (R341), in whatever place the map puts them (log 31). -/
def fieldRows : List (PortField × (ByteAccess → Instr)) :=
  [(.opMode, .portOpMode), (.apertureCntl, .portApertureCntl), (.port4, .portPort4), (.apIdx, .portApIdx),
   (.accessMode, .portAccessMode), (.regIdx, .portRegIdx), (.data, .portDataB), (.data, .portDataC),
   (.data, .portDataD), (.data, .portDataE), (.data, .portDataF)]

/-- The rows of the ports without a field in the default map, by number (R341, log 31). -/
def unnamedRows : List (BitVec 4 × (ByteAccess → Instr)) :=
  [(0x2, .portNone2), (0x3, .portNone3), (0x5, .portNone5), (0x6, .portNone6), (0x7, .portNone7)]

/-- The sub-registers' rows by index (R343). -/
def subRows : List (Byte × (ByteAccess → Instr)) :=
  [(0x10, .idx10), (0x11, .idx11), (0x12, .idx12), (0x13, .idx13), (0x14, .idx14), (0x15, .idx15), (0x18, .idx18),
   (0x19, .idx19), (0x20, .idx20), (0x21, .idx21), (0x22, .idx22), (0x23, .idx23), (0x24, .idx24), (0x25, .idx25),
   (0x28, .idx28), (0x29, .idx29), (0x2C, .idx2c), (0x2D, .idx2d), (0x30, .idx30), (0x31, .idx31), (0x32, .idx32),
   (0x33, .idx33), (0x34, .idx34), (0x35, .idx35), (0x36, .idx36), (0x38, .idx38), (0x39, .idx39), (0x3A, .idx3a),
   (0x3B, .idx3b), (0x3C, .idx3c), (0x3D, .idx3d), (0x40, .idx40), (0x41, .idx41), (0x42, .idx42), (0x43, .idx43),
   (0x44, .idx44), (0x51, .idx51), (0x54, .idx54), (0x60, .idx60), (0x61, .idx61), (0x65, .idx65), (0x6A, .idx6a)]

/-- The rows of the opcodes that draw nothing at the command trigger (R261 to R265). -/
def quietRows : List (BitVec 4 × (BitVec 28 → Instr)) :=
  [(0x0, .opRsvd0), (0x1, .opRsvd1), (0x2, .opRsvd2), (0x3, .opLineRead), (0x4, .opShortStroke), (0x6, .opRsvd6),
   (0x7, .opRsvd7), (0x9, .opBitbltInv), (0xA, .opAreaFill), (0xB, .opRsvdB), (0xC, .opRsvdC), (0xD, .opRsvdD),
   (0xE, .opRsvdE), (0xF, .opRsvdF)]

/-- The stroke rows by direction code, with the unit step of R118. -/
def strokeRows : List (BitVec 3 × (Bool → BitVec 4 → Instr) × Int × Int) :=
  [(0, .strokeDir0, 1, 0), (1, .strokeDir1, 1, -1), (2, .strokeDir2, 0, -1), (3, .strokeDir3, -1, -1),
   (4, .strokeDir4, -1, 0), (5, .strokeDir5, -1, 1), (6, .strokeDir6, 0, 1), (7, .strokeDir7, 1, 1)]

/-- The ten 16-bit fields of the display controller whose high byte recalculates (R32, R33, R343): the row of the low
byte, the row of the high byte, how the field is read and how it is replaced. -/
def splitFields :
    List ((ByteAccess → Instr) × (ByteAccess → Instr) × (CrtcRegs → Half) × (CrtcRegs → Half → CrtcRegs)) :=
  [(.idx10, .idx11, CrtcRegs.htotal, fun c v => { c with htotal := v }),
   (.idx12, .idx13, CrtcRegs.hdispend, fun c v => { c with hdispend := v }),
   (.idx14, .idx15, CrtcRegs.hblankstart, fun c v => { c with hblankstart := v }),
   (.idx18, .idx19, CrtcRegs.hsyncstart, fun c v => { c with hsyncstart := v }),
   (.idx20, .idx21, CrtcRegs.vtotal, fun c v => { c with vtotal := v }),
   (.idx22, .idx23, CrtcRegs.vdispend, fun c v => { c with vdispend := v }),
   (.idx24, .idx25, CrtcRegs.vblankstart, fun c v => { c with vblankstart := v }),
   (.idx28, .idx29, CrtcRegs.vsyncstart, fun c v => { c with vsyncstart := v }),
   (.idx2c, .idx2d, CrtcRegs.linecmp, fun c v => { c with linecmp := v }),
   (.idx43, .idx44, CrtcRegs.dispPitch, fun c v => { c with dispPitch := v })]

/-- Replace the display-controller fields. -/
def State.withCrtc (s : State) (c : CrtcRegs) : State := { s with ext := { s.ext with crtc := c } }

/-! ## Where a write of the register block lands -/

/-- The bits of a byte at offset `o` of the register block that are kept (R252, R255): none where no register is. -/
def laneMask (o : Nat) : Byte :=
  if o = 0x12 then 0x03
  else if o = 0x1C then 0x0F
  else if o = 0x4A then 0x07
  else if (0x14 ≤ o ∧ o ≤ 0x1B) ∨ o = 0x20 ∨ o = 0x21 ∨ o = 0x24 ∨ o = 0x25 ∨ o = 0x28 ∨ o = 0x29 ∨
      (0x2C ≤ o ∧ o ≤ 0x2F) ∨ o = 0x48 ∨ o = 0x49 ∨ (0x4C ≤ o ∧ o ≤ 0x53) ∨ (0x58 ≤ o ∧ o ≤ 0x63) ∨
      (0x6C ≤ o ∧ o ≤ 0x7F) then 0xFF
  else 0x00

/-! ## Where a pixel lies -/

/-- The accelerator address and the number of bytes of pixel `(x, y)` of a descriptor (R131, R136, R137): none for a
reserved depth (R139). -/
def pixelAt (c : HostConfig) (d : MapDesc) (x y : Int) : Option (Word × Nat) :=
  match depthOf d.format with
  | .one => some (addr1 c d x y, 1)
  | .eight => some (addr8 c d x y, 1)
  | .sixteen => some (addr16 c d x y, 2)
  | .reserved => none

/-- Whether byte `b` of video memory is one that a write of pixel `(x, y)` stores (R75, R76). -/
def State.pixelByte (s : State) (d : MapDesc) (x y : Int) (b : Nat) : Prop :=
  ∃ a n, pixelAt s.cfg d x y = some (a, n) ∧ s.inWindow a = true ∧ b < HostConfig.vramSize s.cfg ∧
    HostConfig.windowBase s.cfg + b < a.toNat + n ∧ a.toNat ≤ HostConfig.windowBase s.cfg + b

/-- The bits a pixel of a depth holds (R140). -/
def depthMask : Depth → Word
  | .one => 1
  | .eight => 0xFF
  | .sixteen => 0xFFFF
  | .reserved => 0

/-! ## Where a line goes -/

/-- The error term before move `k` of a line (R222). -/
def lineErrAt (p : LineParams) (err : Int) : Nat → Int
  | 0 => err
  | k + 1 => lineErr p (lineErrAt p err k)

/-- How many of the first `n` moves of a line step the minor axis (R222). -/
def lineMinorSteps (p : LineParams) (err : Int) (n : Nat) : Nat :=
  ((List.range n).filter (fun k => decide (0 ≤ lineErrAt p err k))).length

/-! ## Rows as register fields -/

/-- The mix codes' rows by code (R109). -/
def mixRows : List (BitVec 5 × (Word → Word → Instr)) :=
  [(0x00, .ropClear), (0x01, .ropAnd), (0x02, .ropAndNot), (0x03, .ropSrc), (0x04, .ropNotAnd), (0x05, .ropNop),
   (0x06, .ropXor), (0x07, .ropOr), (0x08, .ropNor), (0x09, .ropXnor), (0x0A, .ropNotDest), (0x0B, .ropOrNot),
   (0x0C, .ropNotSrc), (0x0D, .ropNotOrDest), (0x0E, .ropNand), (0x0F, .ropSet), (0x10, .ropMax), (0x11, .ropMin),
   (0x12, .ropAddSat), (0x13, .ropSubSatDs), (0x14, .ropSubSatSd), (0x15, .ropAvg), (0x16, .ropMixUndef16),
   (0x17, .ropMixUndef17), (0x18, .ropMixUndef18), (0x19, .ropMixUndef19), (0x1A, .ropMixUndef1a),
   (0x1B, .ropMixUndef1b), (0x1C, .ropMixUndef1c), (0x1D, .ropMixUndef1d), (0x1E, .ropMixUndef1e),
   (0x1F, .ropMixUndef1f)]

/-- Replace the accelerator registers. -/
def State.withAcc (s : State) (a : Accel) : State := { s with acc := a }

/-- The descriptor that `px_map_idx` selects (R254). -/
def State.currentDesc (s : State) : MapDesc := MapBank.get s.acc.maps s.acc.pxMapIdx

/-- Replace the descriptor that `px_map_idx` selects (R254). -/
def State.withDesc (s : State) (d : MapDesc) : State :=
  s.withAcc { s.acc with maps := MapBank.set s.acc.maps s.acc.pxMapIdx d }

/-- Replace the extended registers. -/
def State.withExt (s : State) (e : Ext) : State := { s with ext := e }

/-- Bits 7:0 of a 16-bit field (R115). -/
def lowByte (h : Half) : Byte := h.extractLsb' 0 8

/-- Bits 15:8 of a 16-bit field (R115). -/
def highByte (h : Half) : Byte := h.extractLsb' 8 8

/-- A 16-bit field with bits 7:0 replaced (R115). -/
def withLowByte (h : Half) (v : Byte) : Half := h.extractLsb' 8 8 ++ v

/-- A 16-bit field with bits 15:8 replaced (R115). -/
def withHighByte (h : Half) (v : Byte) : Half := v ++ h.extractLsb' 0 8

/-- The low `OUT_BITS` bits of a cursor colour (R35). -/
def State.colourBits (s : State) (w : Word) : Word := BitVec.ofNat 32 (w.toNat % 2 ^ s.cfg.outBits)

/-- A palette data byte, by the component that is due (R344). -/
def State.paletteStaged (s : State) (v : Byte) : State :=
  match s.ext.dacSeq with
  | .red => s.withExt { s.ext with dacR := v, dacSeq := .green }
  | .green => s.withExt { s.ext with dacG := v, dacSeq := .blue }
  | .blue =>
    { s with
      palette := Memory.write s.palette s.ext.dacIndex.toNat { r := s.ext.dacR, g := s.ext.dacG, b := v }
      ext := { s.ext with dacSeq := .red, dacIndex := s.ext.dacIndex + 1 } }

/-- One accelerator register as a whole: its row, its length, what is stored, what a full-width write leaves (R236, R252 to
R256). -/
structure AccField where
  row : RegAccess → Instr
  len : Len
  get : State → Word
  set : State → Word → State

/-- The 27 accelerator registers as whole fields. -/
def accFields : List AccField :=
  [
   ⟨.accPxMapIdx, .b1, fun s => s.acc.pxMapIdx.setWidth 32,
    fun s v => s.withAcc { s.acc with pxMapIdx := v.setWidth 2 }⟩,
   ⟨.accMapBase, .b4, fun s => s.currentDesc.base,
    fun s v => s.withDesc { s.currentDesc with base := v }⟩,
   ⟨.accMapWidth, .b2, fun s => s.currentDesc.width.setWidth 32,
    fun s v => s.withDesc { s.currentDesc with width := v.setWidth 16 }⟩,
   ⟨.accMapHeight, .b2, fun s => s.currentDesc.height.setWidth 32,
    fun s v => s.withDesc { s.currentDesc with height := v.setWidth 16 }⟩,
   ⟨.accMapFormat, .b1, fun s => s.currentDesc.format.setWidth 32,
    fun s v => s.withDesc { s.currentDesc with format := v.setWidth 4 }⟩,
   ⟨.accBresErrTerm, .b2, fun s => s.acc.bresErrTerm.setWidth 32,
    fun s v => s.withAcc { s.acc with bresErrTerm := v.setWidth 16 }⟩,
   ⟨.accBresK1, .b2, fun s => s.acc.bresK1.setWidth 32,
    fun s v => s.withAcc { s.acc with bresK1 := v.setWidth 16 }⟩,
   ⟨.accBresK2, .b2, fun s => s.acc.bresK2.setWidth 32,
    fun s v => s.withAcc { s.acc with bresK2 := v.setWidth 16 }⟩,
   ⟨.accShortStroke, .b4, fun s => s.acc.shortStroke,
    fun s v => (s.withAcc { s.acc with shortStroke := v }).shortStrokeTrigger⟩,
   ⟨.accFrgdMix, .b1, fun s => s.acc.frgdMix.setWidth 32,
    fun s v => s.withAcc { s.acc with frgdMix := v.setWidth 8 }⟩,
   ⟨.accBkgdMix, .b1, fun s => s.acc.bkgdMix.setWidth 32,
    fun s v => s.withAcc { s.acc with bkgdMix := v.setWidth 8 }⟩,
   ⟨.accCcCond, .b1, fun s => s.acc.ccCond.setWidth 32,
    fun s v => s.withAcc { s.acc with ccCond := v.setWidth 3 }⟩,
   ⟨.accColorCmp, .b4, fun s => s.acc.colorCmp,
    fun s v => s.withAcc { s.acc with colorCmp := v }⟩,
   ⟨.accPlaneMask, .b4, fun s => s.acc.planeMask,
    fun s v => s.withAcc { s.acc with planeMask := v }⟩,
   ⟨.accFrgdColor, .b4, fun s => s.acc.frgdColor,
    fun s v => s.withAcc { s.acc with frgdColor := v }⟩,
   ⟨.accBkgdColor, .b4, fun s => s.acc.bkgdColor,
    fun s v => s.withAcc { s.acc with bkgdColor := v }⟩,
   ⟨.accBltWidth, .b2, fun s => s.acc.bltWidth.setWidth 32,
    fun s v => s.withAcc { s.acc with bltWidth := v.setWidth 16 }⟩,
   ⟨.accBltHeight, .b2, fun s => s.acc.bltHeight.setWidth 32,
    fun s v => s.withAcc { s.acc with bltHeight := v.setWidth 16 }⟩,
   ⟨.accMaskMapOriginXOff, .b2, fun s => s.acc.maskOriginX.setWidth 32,
    fun s v => s.withAcc { s.acc with maskOriginX := v.setWidth 16 }⟩,
   ⟨.accMaskMapOriginYOff, .b2, fun s => s.acc.maskOriginY.setWidth 32,
    fun s v => s.withAcc { s.acc with maskOriginY := v.setWidth 16 }⟩,
   ⟨.accSrcMapX, .b2, fun s => s.acc.srcMapX.setWidth 32,
    fun s v => s.withAcc { s.acc with srcMapX := v.setWidth 16 }⟩,
   ⟨.accSrcMapY, .b2, fun s => s.acc.srcMapY.setWidth 32,
    fun s v => s.withAcc { s.acc with srcMapY := v.setWidth 16 }⟩,
   ⟨.accPatMapX, .b2, fun s => s.acc.patMapX.setWidth 32,
    fun s v => s.withAcc { s.acc with patMapX := v.setWidth 16 }⟩,
   ⟨.accPatMapY, .b2, fun s => s.acc.patMapY.setWidth 32,
    fun s v => s.withAcc { s.acc with patMapY := v.setWidth 16 }⟩,
   ⟨.accDstMapX, .b2, fun s => s.acc.dstMapX.setWidth 32,
    fun s v => s.withAcc { s.acc with dstMapX := v.setWidth 16 }⟩,
   ⟨.accDstMapY, .b2, fun s => s.acc.dstMapY.setWidth 32,
    fun s v => s.withAcc { s.acc with dstMapY := v.setWidth 16 }⟩,
   ⟨.accCommand, .b4, fun s => s.acc.command,
    fun s v => (s.withAcc { s.acc with command := v }).commandTrigger⟩]

/-- One sub-register: its row, the byte a read returns, what a write leaves (R343 to R345, R351). -/
structure SubByte where
  row : ByteAccess → Instr
  get : State → Byte
  set : State → Byte → State

/-- The 42 sub-registers. -/
def subFields : List SubByte :=
  [
   ⟨.idx10, fun s => lowByte s.ext.crtc.htotal,
    fun s v => s.withCrtc { s.ext.crtc with htotal := withLowByte s.ext.crtc.htotal v }⟩,
   ⟨.idx11, fun s => highByte s.ext.crtc.htotal,
    fun s v => (s.withCrtc { s.ext.crtc with htotal := withHighByte s.ext.crtc.htotal v }).recalc⟩,
   ⟨.idx12, fun s => lowByte s.ext.crtc.hdispend,
    fun s v => s.withCrtc { s.ext.crtc with hdispend := withLowByte s.ext.crtc.hdispend v }⟩,
   ⟨.idx13, fun s => highByte s.ext.crtc.hdispend,
    fun s v => (s.withCrtc { s.ext.crtc with hdispend := withHighByte s.ext.crtc.hdispend v }).recalc⟩,
   ⟨.idx14, fun s => lowByte s.ext.crtc.hblankstart,
    fun s v => s.withCrtc { s.ext.crtc with hblankstart := withLowByte s.ext.crtc.hblankstart v }⟩,
   ⟨.idx15, fun s => highByte s.ext.crtc.hblankstart,
    fun s v => (s.withCrtc { s.ext.crtc with hblankstart := withHighByte s.ext.crtc.hblankstart v }).recalc⟩,
   ⟨.idx18, fun s => lowByte s.ext.crtc.hsyncstart,
    fun s v => s.withCrtc { s.ext.crtc with hsyncstart := withLowByte s.ext.crtc.hsyncstart v }⟩,
   ⟨.idx19, fun s => highByte s.ext.crtc.hsyncstart,
    fun s v => (s.withCrtc { s.ext.crtc with hsyncstart := withHighByte s.ext.crtc.hsyncstart v }).recalc⟩,
   ⟨.idx20, fun s => lowByte s.ext.crtc.vtotal,
    fun s v => s.withCrtc { s.ext.crtc with vtotal := withLowByte s.ext.crtc.vtotal v }⟩,
   ⟨.idx21, fun s => highByte s.ext.crtc.vtotal,
    fun s v => (s.withCrtc { s.ext.crtc with vtotal := withHighByte s.ext.crtc.vtotal v }).recalc⟩,
   ⟨.idx22, fun s => lowByte s.ext.crtc.vdispend,
    fun s v => s.withCrtc { s.ext.crtc with vdispend := withLowByte s.ext.crtc.vdispend v }⟩,
   ⟨.idx23, fun s => highByte s.ext.crtc.vdispend,
    fun s v => (s.withCrtc { s.ext.crtc with vdispend := withHighByte s.ext.crtc.vdispend v }).recalc⟩,
   ⟨.idx24, fun s => lowByte s.ext.crtc.vblankstart,
    fun s v => s.withCrtc { s.ext.crtc with vblankstart := withLowByte s.ext.crtc.vblankstart v }⟩,
   ⟨.idx25, fun s => highByte s.ext.crtc.vblankstart,
    fun s v => (s.withCrtc { s.ext.crtc with vblankstart := withHighByte s.ext.crtc.vblankstart v }).recalc⟩,
   ⟨.idx28, fun s => lowByte s.ext.crtc.vsyncstart,
    fun s v => s.withCrtc { s.ext.crtc with vsyncstart := withLowByte s.ext.crtc.vsyncstart v }⟩,
   ⟨.idx29, fun s => highByte s.ext.crtc.vsyncstart,
    fun s v => (s.withCrtc { s.ext.crtc with vsyncstart := withHighByte s.ext.crtc.vsyncstart v }).recalc⟩,
   ⟨.idx2c, fun s => lowByte s.ext.crtc.linecmp,
    fun s v => s.withCrtc { s.ext.crtc with linecmp := withLowByte s.ext.crtc.linecmp v }⟩,
   ⟨.idx2d, fun s => highByte s.ext.crtc.linecmp,
    fun s v => (s.withCrtc { s.ext.crtc with linecmp := withHighByte s.ext.crtc.linecmp v }).recalc⟩,
   ⟨.idx30, fun s => lowByte s.ext.hwcX,
    fun s v => s.withExt { s.ext with hwcX := withLowByte s.ext.hwcX v }⟩,
   ⟨.idx31, fun s => highByte s.ext.hwcX,
    fun s v => s.withExt { s.ext with hwcX := withHighByte s.ext.hwcX v }⟩,
   ⟨.idx32, fun s => s.ext.hwcXoff.setWidth 8,
    fun s v => s.withExt { s.ext with hwcXoff := v.setWidth 6 }⟩,
   ⟨.idx33, fun s => lowByte s.ext.hwcY,
    fun s v => s.withExt { s.ext with hwcY := withLowByte s.ext.hwcY v }⟩,
   ⟨.idx34, fun s => highByte s.ext.hwcY,
    fun s v => s.withExt { s.ext with hwcY := withHighByte s.ext.hwcY v }⟩,
   ⟨.idx35, fun s => s.ext.hwcYoff.setWidth 8,
    fun s v => s.withExt { s.ext with hwcYoff := v.setWidth 6 }⟩,
   ⟨.idx36, fun s => if s.ext.hwcEna then 1 else 0,
    fun s v => s.withExt { s.ext with hwcEna := v.getLsbD 0 }⟩,
   ⟨.idx38, fun s => s.ext.hwcColor0.extractLsb' 16 8,
    fun s v => s.withExt { s.ext with
      hwcColor0 := s.colourBits (s.ext.hwcColor0.extractLsb' 24 8 ++ v ++ s.ext.hwcColor0.extractLsb' 0 16) }⟩,
   ⟨.idx39, fun s => s.ext.hwcColor0.extractLsb' 8 8,
    fun s v => s.withExt { s.ext with
      hwcColor0 := s.colourBits (s.ext.hwcColor0.extractLsb' 16 16 ++ v ++ s.ext.hwcColor0.extractLsb' 0 8) }⟩,
   ⟨.idx3a, fun s => s.ext.hwcColor0.extractLsb' 0 8,
    fun s v => s.withExt { s.ext with
      hwcColor0 := s.colourBits (s.ext.hwcColor0.extractLsb' 8 24 ++ v) }⟩,
   ⟨.idx3b, fun s => s.ext.hwcColor1.extractLsb' 16 8,
    fun s v => s.withExt { s.ext with
      hwcColor1 := s.colourBits (s.ext.hwcColor1.extractLsb' 24 8 ++ v ++ s.ext.hwcColor1.extractLsb' 0 16) }⟩,
   ⟨.idx3c, fun s => s.ext.hwcColor1.extractLsb' 8 8,
    fun s v => s.withExt { s.ext with
      hwcColor1 := s.colourBits (s.ext.hwcColor1.extractLsb' 16 16 ++ v ++ s.ext.hwcColor1.extractLsb' 0 8) }⟩,
   ⟨.idx3d, fun s => s.ext.hwcColor1.extractLsb' 0 8,
    fun s v => s.withExt { s.ext with
      hwcColor1 := s.colourBits (s.ext.hwcColor1.extractLsb' 8 24 ++ v) }⟩,
   ⟨.idx40, fun s => s.ext.crtc.dispAddr.extractLsb' 0 8,
    fun s v => s.withCrtc { s.ext.crtc with dispAddr := s.ext.crtc.dispAddr.extractLsb' 8 16 ++ v }⟩,
   ⟨.idx41, fun s => s.ext.crtc.dispAddr.extractLsb' 8 8,
    fun s v => s.withCrtc { s.ext.crtc with
      dispAddr := s.ext.crtc.dispAddr.extractLsb' 16 8 ++ v ++ s.ext.crtc.dispAddr.extractLsb' 0 8 }⟩,
   ⟨.idx42, fun s => s.ext.crtc.dispAddr.extractLsb' 16 8,
    fun s v => (s.withCrtc { s.ext.crtc with dispAddr := v ++ s.ext.crtc.dispAddr.extractLsb' 0 16 }).recalc⟩,
   ⟨.idx43, fun s => lowByte s.ext.crtc.dispPitch,
    fun s v => s.withCrtc { s.ext.crtc with dispPitch := withLowByte s.ext.crtc.dispPitch v }⟩,
   ⟨.idx44, fun s => highByte s.ext.crtc.dispPitch,
    fun s v => (s.withCrtc { s.ext.crtc with dispPitch := withHighByte s.ext.crtc.dispPitch v }).recalc⟩,
   ⟨.idx51, fun s => s.ext.crtc.dispMode,
    fun s v => (s.withCrtc { s.ext.crtc with dispMode := v }).recalc⟩,
   ⟨.idx54, fun s => s.ext.crtc.clkSel.setWidth 8,
    fun s v => (s.withCrtc { s.ext.crtc with clkSel := v.setWidth 2 }).recalc⟩,
   ⟨.idx60, fun s => s.ext.dacIndex,
    fun s v => s.withExt { s.ext with dacIndex := v, dacSeq := .red, spriteIdx := s.ext.spriteIdx.extractLsb' 8 2 ++ v }⟩,
   ⟨.idx61, fun s => (s.ext.spriteIdx.extractLsb' 8 2).setWidth 8,
    fun s v => s.withExt { s.ext with spriteIdx := v.setWidth 2 ++ s.ext.spriteIdx.extractLsb' 0 8 }⟩,
   ⟨.idx65, fun _ => 0,
    fun s v => s.paletteStaged v⟩,
   ⟨.idx6a, fun _ => 0,
    fun s v => { s with
      spriteData := Memory.write s.spriteData s.ext.spriteIdx.toNat v
      ext := { s.ext with spriteIdx := s.ext.spriteIdx + 1 } }⟩]

/-- Run rows one after another. -/
def State.execAll (s : State) : List Instr → Host.Outcome State Fault Refusal
  | [] => .next s
  | i :: is =>
    match exec i s with
    | .next t => t.execAll is
    | .fault f => .fault f
    | .refused r => .refused r

end Sys2Proof.Machine
end

