-- ==== Sys2Proof/Certificates/Slice0/Obligations.lean ====
section
/-! DEFINITION. The statements for the provers. Each docstring names the rules of the spec that it formalises; where the
spec marks a rule as its own decision D<n>, or where the model chose (log <n>), the docstring says so. -/

section

open Sys2Proof Sys2Proof.Machine

/-! ## Life cycle, decoding, the step -/

/-- R47, R391: the values after attach, each register named. The values are the spec's decision D25 (and, for the host's
configuration, log 9); nothing is said of `vram`, `sprite_data` and `palette`, which R391 leaves unspecified. -/
def Obligations.ResetHasAttachValues : Prop :=
  State.reset.attached = true ∧
  State.reset.acc = {
    frgdColor := 0, bkgdColor := 0, planeMask := 0, colorCmp := 0, ccCond := 0, frgdMix := 0, bkgdMix := 0,
    bresErrTerm := 0, bresK1 := 0, bresK2 := 0, shortStroke := 0, bltWidth := 0, bltHeight := 0,
    maskOriginX := 0, maskOriginY := 0, srcMapX := 0, srcMapY := 0, patMapX := 0, patMapY := 0,
    dstMapX := 0, dstMapY := 0, pxMapIdx := 0, command := 0,
    maps := { m0 := ⟨0, 0, 0, 0⟩, m1 := ⟨0, 0, 0, 0⟩, m2 := ⟨0, 0, 0, 0⟩, m3 := ⟨0, 0, 0, 0⟩ } } ∧
  State.reset.live = ⟨0, 0, 0, 0, 0, 0, 0, 0⟩ ∧
  State.reset.ext = {
    crtc := {
      opMode := 0, htotal := 0, vtotal := 0, hblankstart := 0, vblankstart := 0, hsyncstart := 0, vsyncstart := 0,
      hdispend := 0, vdispend := 0, linecmp := 0, dispMode := 0, dispAddr := 0, dispPitch := 0, clkSel := 0 }
    apertureCntl := 0, accessMode := 0, apIdx := 0, regIdx := 0, port4 := 0, dacIndex := 0, dacSeq := .red,
    dacR := 0, dacG := 0, hwcX := 0, hwcY := 0, hwcXoff := 0, hwcYoff := 0, hwcColor0 := 0, hwcColor1 := 0,
    hwcEna := false, spriteIdx := 0, linearBase := 0, baseAddr1mb := 0, bankedMask := 0 } ∧
  State.reset.flags = { on := false, linearEndianReverse := false, cursorDataOn := false } ∧
  State.reset.raster = {
    linepos := false, vc := 0, sc := 0, displine := 0, ma := 0, maback := 0, dispon := false, oddeven := false,
    firstline := 2000, lastline := 0, firstlineDraw := 2000, lastlineDraw := 0, fullchange := 0,
    changeframecount := 2, hwcursorOn := 0, hwcursorOddeven := false,
    latch := { x := 0, y := 0, xoff := 0, yoff := 0, ena := false, addr := 0 } } ∧
  State.reset.eff = {
    vTotal := 0, dispend := 0, vSyncstart := 0, split := 0, hDisp := 0, rowoffset := 0, maLatch := 0, rowcount := 0,
    interlace := false, bpp16 := false } ∧
  (∀ p, State.reset.dirty p = 0)

/-- R390, R391: an attach with a ROM image makes a new device, whatever the state before, and maps the linear window of
R348. The values are the spec's decision D25. The rest of the next state is the model's: an attach over an attached device
makes a new one (log 22), a new device has arbitrary memories of its own (logs 5 and 6: the count `generation` numbers
them), `firstline_draw` takes the value of `FIRSTLINE_NONE` too (log 39), the frame buffer and the legacy CRTC file stay the
host's (log 37), and so do the calls, the oracle's count, the answer and the inbox (logs 1, 4, 14 and 23). -/
def Obligations.AttachMakesNewDevice : Prop :=
  ∀ (s : State) (rom : List Byte) (lb b1 : Word) (cfg : HostConfig) (rest : List HostEvent),
    s.inbox = .attach (some rom) lb b1 cfg :: rest →
    step s = .next { State.reset with
      cfg := { cfg with rom := rom }
      ext := { State.reset.ext with linearBase := lb, baseAddr1mb := b1 }
      raster := { State.reset.raster with firstline := cfg.firstlineNone, firstlineDraw := cfg.firstlineNone }
      mapping := if b1 ≠ 0 then .linear b1 0x100000 else .linear lb 0x400000
      generation := s.generation + 1
      fb := s.fb, legacyCrtc := s.legacyCrtc
      sysReads := s.sysReads, answer := s.answer, inbox := rest
      outputs := .mapRequest (if b1 ≠ 0 then .linear b1 0x100000 else .linear lb 0x400000) :: s.outputs }

/-- R371, R374, R375, R382, R390: an attach with no ROM image is `AttachFailure`: the caller is told, no device exists
afterwards, and the machine goes on, so that a later attach that has an image makes a device; nothing else reports that
failure. Detach destroys the device. While none exists no event of the device can occur: the model refuses it (log 22).
That the frame buffer and the legacy CRTC file stay the host's is log 37's. -/
def Obligations.FailedAttachAndDetachLeaveNoDevice : Prop :=
  (∀ (s : State) (lb b1 : Word) (cfg : HostConfig) (rest : List HostEvent),
    s.inbox = .attach none lb b1 cfg :: rest →
    ∃ t, step s = .next t ∧ t.attached = false ∧ t.inbox = rest ∧ t.outputs = .attachFailure :: s.outputs ∧
      t.vram = [] ∧ t.acc = State.reset.acc ∧ t.mapping = .unmapped ∧ t.fb = s.fb ∧ t.legacyCrtc = s.legacyCrtc ∧
      ∀ rom lb2 b2 cfg2 rest2, rest = .attach (some rom) lb2 b2 cfg2 :: rest2 →
        ∃ u, step t = .next u ∧ u.attached = true ∧ u.inbox = rest2 ∧ u.cfg = { cfg2 with rom := rom }) ∧
  (∀ s t : State, step s = .next t → .attachFailure ∈ t.outputs →
    .attachFailure ∈ s.outputs ∨ ∃ lb b1 cfg rest, s.inbox = .attach none lb b1 cfg :: rest) ∧
  (∀ (s : State) (rest : List HostEvent), s.attached = true → s.inbox = .detach :: rest →
    ∃ t, step s = .next t ∧ t.attached = false ∧ t.inbox = rest ∧ t.outputs = s.outputs ∧ t.vram = [] ∧
      t.acc = State.reset.acc ∧ t.mapping = .unmapped ∧ t.fb = s.fb ∧ t.legacyCrtc = s.legacyCrtc) ∧
  (∀ (s : State) (e : HostEvent) (rest : List HostEvent), s.attached = false → s.inbox = e :: rest →
    HostEvent.isAttach e = false → step s = .refused .notAttached)

/-- R15, R78: where the next host event is the bytes of a row, a step is `exec` of the row they decode to, in the state
with that event taken off the inbox; with no event to deliver, a step changes nothing (log 4). -/
def Obligations.StepRunsDecodedRow : Prop :=
  (∀ (s : State) (bytes after : List Byte) (rest : List HostEvent) (i : Instr),
    s.attached = true → s.inbox = .row bytes :: rest → decode bytes = .ok (i, after) →
    step s = exec i { s with inbox := rest }) ∧
  (∀ s : State, s.inbox = [] → step s = .next s)

/-- R100 to R118, R252, R341, R343: words written out from the spec's encodings decode to what they stand for. The tag
byte before a word and the operands after it are the model's framing (log 2). The encodings are the spec's own choices but
for the opcode nibble: field positions D1's, octant D2's, draw mode D13's, mask mode D12's, compare code D11's, format
code D5's, stroke byte D17's, register offset D20's, port and index D22's; the table's words are in these default layouts
(log 16). -/
def Obligations.DecodeReadsSpecWords : Prop :=
  -- `WR2 0x7C, 0x8000` and `OUT 0x1, 0x01`, as event tuples.
  decode [0x01, 0x7C, 0x01, 0x00, 0x80, 0x00, 0x00] = .ok (.wr 0x7C .b2 0x8000, []) ∧
  decode [0x05, 0x01, 0x01] = .ok (.out 0x1 0x01, []) ∧
  -- The command word 0x80118000 of R267: opcode 8 in bits 31:28.
  decode [0x10, 0x00, 0x80, 0x11, 0x80] = .ok (.opBitblt 0x0118000, []) ∧
  -- draw_mode = 1 is bit 4; mask_mode = 2 is bit 7; octant = 6 is bits 2 and 1.
  decode [0x11, 0x10, 0x00, 0x00, 0x00, 0x01, 0x00] = .ok (.dmNotFirstCol true false, []) ∧
  decode [0x12, 0x80, 0x00, 0x00, 0x00, 0x05, 0x00, 0x00, 0x00, 0x07, 0x00, 0x00, 0x00] = .ok (.clipOn2 5 7, []) ∧
  decode [0x13, 0x06, 0x00, 0x00, 0x00] = .ok (.oct6, []) ∧
  -- fg_src = 2 is bit 25, with src_sel = 1 in bit 20; bg_src = 2 is bit 27; pat_sel = 8 is bit 15.
  decode [0x14, 0x00, 0x00, 0x10, 0x02, 0x03, 0x00, 0x00, 0x00, 0x04, 0x00, 0x00, 0x00] = .ok (.fgSrcMap 1 3 4, []) ∧
  decode [0x15, 0x00, 0x00, 0x10, 0x08, 0x03, 0x00, 0x00, 0x00, 0x04, 0x00, 0x00, 0x00] = .ok (.bgSrcMap 1 3 4, []) ∧
  decode [0x16, 0x00, 0x80, 0x00, 0x00, 0x00, 0x00, 0x00, 0x00, 0x00, 0x00, 0x00, 0x00] = .ok (.patNone, []) ∧
  decode [0x18, 0x00, 0x00, 0x05, 0x00] = .ok (.dstMapSel 5, []) ∧
  -- Mix code 0x06, compare code 3, stroke byte 0xD2 (R242), format code 0xB (packed, 8 bits per pixel).
  decode [0x20, 0x06, 0xF0, 0x00, 0x00, 0x00, 0x3C, 0x00, 0x00, 0x00] = .ok (.ropXor 0xF0 0x3C, []) ∧
  decode [0x21, 0x03, 0x10, 0x00, 0x00, 0x00] = .ok (.ccLt 0x10, []) ∧
  decode [0x22, 0xD2] = .ok (.strokeDir6 true 2, []) ∧
  decode [0x23, 0x0B, 0x00, 0x01, 0x03, 0x00, 0x00, 0x00, 0x02, 0x00, 0x00, 0x00] = .ok (.pf8 true (.read 1 3 2), []) ∧
  -- Offset 0x50, port 0x8, index 0x2D.
  decode [0x30, 0x50, 0x01, 0x02, 0xFF, 0x00, 0x00, 0x00] = .ok (.accPlaneMask (.write .b4 0xFF), []) ∧
  decode [0x31, 0x08, 0x01, 0x02] = .ok (.portApIdx (.write 0x02), []) ∧
  decode [0x32, 0x2D, 0x01, 0x07] = .ok (.idx2d (.write 0x07), [])

/-- Decode and encode agree: decoding what the encoder writes gives a well-formed row back, every operand whole, whatever
bytes follow; and what the decoder answers is well-formed: a value fits its length tag (R100), a boot ROM read lies below
0x1800 (R349), a pattern map's selector is not 8 (R107). The framing is the model's (log 2). -/
def Obligations.DecodeEncodeAgree : Prop :=
  (∀ (i : Instr) (after : List Byte), i.wellFormed = true → decode (encode i ++ after) = .ok (i, after)) ∧
  (∀ (bytes after : List Byte) (i : Instr), decode bytes = .ok (i, after) → i.wellFormed = true)

/-- R370: no row faults and none is refused, in any state; so a step of an attached device on an event that the host may
deliver answers a next state, which has taken that event off the inbox. -/
def Obligations.NoOperationRaises : Prop :=
  (∀ (i : Instr) (s : State), ∃ t, exec i s = .next t) ∧
  (∀ (s : State) (e : HostEvent) (rest : List HostEvent), s.attached = true → s.inbox = e :: rest →
    HostEvent.deliverable s e = true → ∃ t, step s = .next t ∧ t.inbox = rest)

/-! ## Invariants and whole-machine rules -/

/-- R47, R391: the three invariants below hold after attach, in the state that holds D25's values (they say nothing of what
the memories that nothing has written hold: logs 5, 6, 7 and 21). -/
def Obligations.InvariantsHoldAtReset : Prop :=
  State.reset.memoriesCanonical ∧ State.reset.mappingCurrent ∧ State.reset.countersBounded

/-- R21 to R24, R352: every store of data keeps its canonical form and stays inside its address space. -/
def Obligations.StepKeepsMemoriesCanonical : Prop :=
  ∀ s t : State, s.memoriesCanonical → step s = .next t → t.memoriesCanonical

/-- R348 (D22, D34): the windows mapped stay those that `aperture_cntl` and the two bases select, and the banked mask stays
full while the banked window is mapped. -/
def Obligations.StepKeepsMappingCurrent : Prop :=
  ∀ s t : State, s.mappingCurrent → step s = .next t → t.mappingCurrent

/-- R283, R290, R297, R298: the frame counter stays 2 or 3, no dirty counter and no force-redraw counter exceeds 3, the
cursor shows at most 64 rows (in a state whose stores of data are canonical, which is an invariant of its own). The
counter's two values are D29's, the force-redraw counter from it D27's, the cursor's row count D26's, the order of the
raster's actions D23's (log 35). -/
def Obligations.StepKeepsCountersBounded : Prop :=
  ∀ s t : State, s.memoriesCanonical → s.countersBounded → step s = .next t → t.countersBounded

/-- R75, R84: whatever row runs, a byte of video memory that changed lies inside it and its page holds the current frame
counter. Outside the tick a dirty counter either keeps its value or holds the frame counter; the tick changes no byte.
(That the array ends at its guard entry is D24's.) -/
def Obligations.EveryChangedByteIsStamped : Prop :=
  ∀ (i : Instr) (s t : State), s.memoriesCanonical → exec i s = .next t →
    (i = .tick → t.vram = s.vram) ∧ (i ≠ .tick → s.stampedFrom t ∧ s.pagesFrom t)

/-- R40, R280: only the tick moves the raster state. Any other row leaves it, and the effective timing, as they were, but
for the recalculation, which sets `eff` from the registers and `fullchange` from the frame counter (R283; which writes
recalculate, and `fullchange` from the frame counter, are D27's). -/
def Obligations.OnlyTicksMoveRaster : Prop :=
  ∀ (i : Instr) (s t : State), i ≠ .tick → exec i s = .next t →
    (t.raster = s.raster ∧ t.eff = s.eff) ∨
    (t.raster = { s.raster with fullchange := s.raster.changeframecount } ∧ t.eff = t.recalcValue)

/-- R341, R343 to R345: the palette changes only by a write that reaches the palette data register, the sprite buffer only
by one that reaches the sprite data register: of its sub-register index directly, or through a data port while the register
index holds that number. Under the default map those indices are 0x65 and 0x6A and the data ports are 0xB to 0xF (D22, log
16); the palette's sequence behind the register is D33's, the sprite's load D26's; the index and port rows are log 31's. -/
def Obligations.OnlyDataRegistersWriteTables : Prop :=
  (∀ (i : Instr) (s t : State), exec i s = .next t →
    let reaches : SubField → Prop := fun f =>
      ∃ k v : Byte, (subEntry s.cfg.extRegMap k.toNat).map SubEntry.field = some f ∧
        ((∃ r, (k, r) ∈ subRows ∧ i = r (.write v)) ∨
          (s.ext.regIdx = k ∧
            ((∃ p : BitVec 4, portField s.cfg.extRegMap p = some .data ∧
                (i = .out p v ∨ ∃ r, (p, r) ∈ unnamedRows ∧ i = r (.write v))) ∨
              ∃ r, (.data, r) ∈ fieldRows ∧ i = r (.write v))))
    (t.palette ≠ s.palette → reaches .paletteData) ∧ (t.spriteData ≠ s.spriteData → reaches .spriteData)) ∧
  (∀ k : Byte,
    ((subEntry Config.extRegMap k.toNat).map SubEntry.field = some .paletteData ↔ k = 0x65) ∧
    ((subEntry Config.extRegMap k.toNat).map SubEntry.field = some .spriteData ↔ k = 0x6A)) ∧
  (∀ p : BitVec 4, portField Config.extRegMap p = some .data ↔ 0xB ≤ p.toNat)

/-- R292, R320, R280: a tick writes the raster state, dirty counters, output pixels and calls to the host, and nothing
else; it adds no dirty counter but the frame counter's value or one less than before (the stamp of cursor lines and the
decay's place are D23's). -/
def Obligations.TickFrame : Prop :=
  ∀ s t : State, exec .tick s = .next t →
    t = { s with raster := t.raster, changedvram := t.changedvram, fb := t.fb, outputs := t.outputs } ∧
    (s.memoriesCanonical → ∀ p, t.dirty p = s.dirty p ∨ t.dirty p = s.raster.changeframecount ∨
      t.dirty p = s.dirty p - 1)

/-! ## The accelerator register file -/

/-- R113, R253, R256, R236: a write of the register block merges its bytes into the lanes that the map gives them, then
triggers: the command trigger when a byte reached lane 3 of the command register, then the short-stroke trigger when one
reached lane 3 of the short-stroke register, else nothing more. The row of a single register is such a write at its first
offset, and does nothing where the map puts the register nowhere in the block (log 31). Under the default map the two lanes
are the offsets 0x7F and 0x2F (D20); the uniform trigger for every length is D18's. -/
def Obligations.WriteMergesLanesThenTriggers : Prop :=
  (∀ (off : BitVec 7) (len : Len) (val : Word) (s : State),
    let m : List AccEntry := s.cfg.accelRegMap
    let merged : State := { s with acc := accMerge m s.acc off.toNat (bytesOf val len.bytes) }
    let reached : AccReg → Prop := fun r => ∃ k < len.bytes, accLane m (off.toNat + k) = some (r, 3)
    ∃ u t : State,
      (reached .command → u = merged.commandTrigger) ∧ (¬ reached .command → u = merged) ∧
      (reached .shortStroke → t = u.shortStrokeTrigger) ∧ (¬ reached .shortStroke → t = u) ∧
      exec (.wr off len val) s = .next t ∧
      ∀ p ∈ regRows,
        (offsetOf m p.1 = off.toNat → exec (p.2 (.write len val)) s = .next t) ∧
        (0x80 ≤ offsetOf m p.1 → exec (p.2 (.write len val)) s = .next s)) ∧
  (∀ o : Nat,
    (accLane Config.accelRegMap o = some (.command, 3) ↔ o = 0x7F) ∧
    (accLane Config.accelRegMap o = some (.shortStroke, 3) ↔ o = 0x2F)) ∧
  (∀ p ∈ regRows.zip accRows, offsetOf Config.accelRegMap p.1.1 = p.2.1.toNat)

/-- R113, R253, R254, R255, R259: under the default map, after the merge, a byte of the block that the write covers reads
back as the byte written, under its register's write mask; every other byte reads as before, descriptor bytes through the
map index as it now stands; and no other descriptor changed. Offsets and masks are D20's and D24's (log 16), reading stored
bytes back is D21's. -/
def Obligations.MergedBytesReadBack : Prop :=
  ∀ (off : BitVec 7) (len : Len) (val : Word) (s : State), s.cfg.accelRegMap = Config.accelRegMap →
    let idx : BitVec 2 :=
      if off.toNat ≤ 0x12 ∧ 0x12 < off.toNat + len.bytes then (byteLane val (0x12 - off.toNat)).setWidth 2
      else s.acc.pxMapIdx
    let merged : State := s.withAcc (accMerge s.cfg.accelRegMap s.acc off.toNat (bytesOf val len.bytes))
    merged.acc.pxMapIdx = idx ∧
    (∀ o, merged.rdByte o =
      if off.toNat ≤ o ∧ o < off.toNat + len.bytes then byteLane val (o - off.toNat) &&& laneMask o
      else (s.withAcc { s.acc with pxMapIdx := idx }).rdByte o) ∧
    (∀ i, i ≠ idx → merged.mapDesc i = s.mapDesc i)

/-- R252 to R256, R259, R236: under the default map, each of the 27 registers, written at its full width, holds the value
truncated to its field and nothing else changes, but for what the trigger of the command register or of the short-stroke
register does; read at its full width, it answers its stored bytes, lowest first (offsets, masks and reads: D20, D21, D24;
rows: logs 16 and 31). -/
def Obligations.RegistersWriteAndReadWhole : Prop :=
  ∀ f ∈ accFields, ∀ (v : Word) (s : State), s.cfg.accelRegMap = Config.accelRegMap →
    exec (f.row (.write f.len v)) s = .next (f.set s v) ∧
    exec (f.row (.read f.len)) s =
      .next { s with answer := .data ((bytesOf (f.get s) f.len.bytes).map some) }

/-- R259, R266, R79: a read of the register block at any offset and length answers the stored bytes, lowest first, 0 where
the map puts no register, and changes nothing; the row of a single register reads at its first offset, and answers zeros
where the map puts the register nowhere in the block (log 31). Under the
default map a byte is 0 in the bits outside its write mask, and 0 at 0x11, where a driver would look for a busy bit (D20,
D21, D24). -/
def Obligations.ReadsAnswerStoredBytes : Prop :=
  (∀ (off : BitVec 7) (len : Len) (s : State),
    let result : State :=
      { s with answer := .data ((List.range len.bytes).map (fun k => some (s.rdByte (off.toNat + k)))) }
    exec (.rd off len) s = .next result ∧
    ∀ p ∈ regRows,
      (offsetOf s.cfg.accelRegMap p.1 = off.toNat → exec (p.2 (.read len)) s = .next result) ∧
      (0x80 ≤ offsetOf s.cfg.accelRegMap p.1 →
        exec (p.2 (.read len)) s = .next { s with answer := .data (List.replicate len.bytes (some 0)) })) ∧
  (∀ (s : State) (o : Nat), accLane s.cfg.accelRegMap o = none → s.rdByte o = 0) ∧
  (∀ (s : State) (o : Nat) (r : AccReg) (lane : Nat), accLane s.cfg.accelRegMap o = some (r, lane) →
    s.rdByte o = byteLane (accGet s.acc r) lane) ∧
  (∀ (s : State), s.cfg.accelRegMap = Config.accelRegMap →
    (∀ o, s.rdByte o = s.rdByte o &&& laneMask o) ∧ s.rdByte 0x11 = 0)

/-- R102, R103, R116, R256, R257, R267: the command trigger runs the line draw on opcode 5 and the BitBLT on opcode 8, under
any layout; an opcode's row has the trigger's effect on the word that holds that opcode (log 27). A command word written as
its two halves, low first, triggers once, at the high half; it has the effect of one 4-byte write, of the command event,
and of the row of its opcode (log 30); a repeated write of the top byte alone triggers again. A high half alone runs with
the low half as it stands. Offsets are the default map's (D20), the row of a whole word that of the default layout (D1, log
16); the uniform trigger for every length is D18's. -/
def Obligations.SplitCommandWriteTriggersOnce : Prop :=
  (∀ s : State,
    (s.cmd.opcode = 5 → s.commandTrigger = s.lineDraw) ∧ (s.cmd.opcode = 8 → s.commandTrigger = s.bitBlt) ∧
    ∀ (code : BitVec 4) (rest : BitVec 28),
      exec (opcodeRow code rest) s =
        .next (s.withAcc { s.acc with command := commandWord s.cfg.cmdLayout code rest }).commandTrigger) ∧
  ∀ (w : Word) (s : State),
    let stored : State := s.withAcc { s.acc with command := w }
    let low : State := s.withAcc { s.acc with command := s.acc.command.extractLsb' 16 16 ++ w.extractLsb' 0 16 }
    let high : State := s.withAcc { s.acc with command := w.extractLsb' 16 16 ++ s.acc.command.extractLsb' 0 16 }
    exec (.cmd w) s = .next stored.commandTrigger ∧
    (s.cfg.cmdLayout = Config.cmdLayout →
      exec (opcodeRow (w.extractLsb' 28 4) (w.extractLsb' 0 28)) s = .next stored.commandTrigger) ∧
    (s.cfg.accelRegMap = Config.accelRegMap →
      exec (.wr 0x7C .b2 (w &&& 0xFFFF)) s = .next low ∧
      exec (.wr 0x7E .b2 (w >>> 16)) low = .next stored.commandTrigger ∧
      exec (.wr 0x7E .b2 (w >>> 16)) s = .next high.commandTrigger ∧
      exec (.wr 0x7C .b4 w) s = .next stored.commandTrigger ∧
      exec (.wr 0x7F .b1 (w >>> 24)) stored = .next stored.commandTrigger)

/-- R110, R236, R239: a stroke byte is the stroke of the row of its direction, bits 7:5, with bit 4 as the draw gate and bits
3:0 as the length; the short-stroke walk is the four strokes of the word, lane 0 first. The short-stroke trigger makes that
walk if the parameter allows it and the command register holds opcode 4; otherwise the word is only stored. A write of the
whole register, a write of its top byte and the event have the same effect (log 30; the trigger itself and the stroke byte
are D17's, the offsets are the default map's, D20; stroke rows: log 29). -/
def Obligations.ShortStrokeWriteWalksUnderOpcodeFour : Prop :=
  (∀ p ∈ strokeRows, ∀ (s : State) (draw : Bool) (len : BitVec 4),
    exec (p.2.1 draw len) s = .next (s.stroke p.1 draw len)) ∧
  (∀ (s : State) (b : Byte), s.strokeByte b = s.stroke (b.extractLsb' 5 3) (b.getLsbD 4) (b.extractLsb' 0 4)) ∧
  ∀ (w : Word) (s : State),
    let stored : State := s.withAcc { s.acc with shortStroke := w }
    let walked : State :=
      (((stored.strokeByte (w.extractLsb' 0 8)).strokeByte (w.extractLsb' 8 8)).strokeByte
        (w.extractLsb' 16 8)).strokeByte (w.extractLsb' 24 8)
    let result : State := if s.cfg.op4OnStepsWrite = true ∧ s.cmd.opcode = 4 then walked else stored
    stored.shortStrokes = walked ∧
    exec (.ssv w) s = .next result ∧
    (s.cfg.accelRegMap = Config.accelRegMap →
      exec (.wr 0x2C .b4 w) s = .next result ∧ exec (.wr 0x2F .b1 (w >>> 24)) stored = .next result)

/-- R256, R261 to R265: the opcodes that draw nothing. Their rows store the command word, the opcode where the layout puts it
(D1, log 27), and change nothing else; a command trigger that finds one of them changes nothing at all (for the ten that the
source does not name, D19). -/
def Obligations.QuietOpcodesChangeNothing : Prop :=
  ∀ p ∈ quietRows,
    (∀ (rest : BitVec 28) (s : State),
      exec (p.2 rest) s = .next (s.withAcc { s.acc with command := commandWord s.cfg.cmdLayout p.1 rest })) ∧
    (∀ s : State, s.cmd.opcode = p.1 → s.commandTrigger = s)

/-! ## Ports, sub-registers, tables, windows -/

/-- R341, R342, R346, R348, R354: what a write of each extended port does, by the row of the port's field (log 31) and by the
event: the discrete fields store; the operating mode also recalculates; the aperture control also remaps; a data port
writes the sub-register that the register index selects, and does nothing where the map has no entry; a port without a field
ignores it. Under the default map ports and fields are paired as listed. The pairing is D22's (log 16), the unnamed ports
are D34's, the aperture control values above 1 too. -/
def Obligations.PortWritesStoreAndAct : Prop :=
  (∀ (v : Byte) (s : State),
    exec (.portOpMode (.write v)) s = .next (s.withCrtc { s.ext.crtc with opMode := v }).recalc ∧
    exec (.portApertureCntl (.write v)) s =
      .next (let m : Mapping :=
          if v = 1 then .banked s.cfg.bankedBase
          else if v = 0 then
            if s.ext.baseAddr1mb ≠ 0 then .linear s.ext.baseAddr1mb 0x100000 else .linear s.ext.linearBase 0x400000
          else .unmapped
        { s with
          ext := { s.ext with apertureCntl := v, bankedMask := if v = 1 then 0xFFFF else s.ext.bankedMask }
          mapping := m
          outputs := .mapRequest m :: s.outputs }) ∧
    exec (.portPort4 (.write v)) s = .next (s.withExt { s.ext with port4 := v }) ∧
    exec (.portApIdx (.write v)) s = .next (s.withExt { s.ext with apIdx := v }) ∧
    exec (.portAccessMode (.write v)) s = .next (s.withExt { s.ext with accessMode := v }) ∧
    exec (.portRegIdx (.write v)) s = .next (s.withExt { s.ext with regIdx := v }) ∧
    (∀ row ∈ [Instr.portDataB, Instr.portDataC, Instr.portDataD, Instr.portDataE, Instr.portDataF],
      ∃ t, exec (row (.write v)) s = .next t ∧
        (∀ r ∈ subRows, r.1 = s.ext.regIdx → exec (r.2 (.write v)) s = .next t) ∧
        (subEntry s.cfg.extRegMap s.ext.regIdx.toNat = none → t = s))) ∧
  (∀ (p : BitVec 4) (v : Byte) (s : State), ∃ t, exec (.out p v) s = .next t ∧
    (∀ r ∈ fieldRows, portField s.cfg.extRegMap p = some r.1 → exec (r.2 (.write v)) s = .next t) ∧
    (portField s.cfg.extRegMap p = none → t = s) ∧
    (∀ r ∈ unnamedRows, r.1 = p → exec (r.2 (.write v)) s = .next t)) ∧
  (List.range 16).map (fun p => portField Config.extRegMap (BitVec.ofNat 4 p)) =
    [some .opMode, some .apertureCntl, none, none, some .port4, none, none, none, some .apIdx, some .accessMode,
     some .regIdx, some .data, some .data, some .data, some .data, some .data]

/-- R341, R351: what a read of each extended port answers, by the row of the port's field and by the event: the stored byte,
through a data port the byte of the sub-register that the register index selects, 0 where the map has no entry or the port
no field; it changes nothing else (D21, D22, D34; rows: log 31). -/
def Obligations.PortReadsAnswerStoredByte : Prop :=
  ∀ s : State,
    let gives : Byte → Host.Outcome State Fault Refusal := fun b => .next { s with answer := .data [some b] }
    exec (.portOpMode .read) s = gives s.ext.crtc.opMode ∧
    exec (.portApertureCntl .read) s = gives s.ext.apertureCntl ∧
    exec (.portPort4 .read) s = gives s.ext.port4 ∧
    exec (.portApIdx .read) s = gives s.ext.apIdx ∧
    exec (.portAccessMode .read) s = gives s.ext.accessMode ∧
    exec (.portRegIdx .read) s = gives s.ext.regIdx ∧
    (∀ row ∈ [Instr.portDataB, Instr.portDataC, Instr.portDataD, Instr.portDataE, Instr.portDataF],
      ∃ b, exec (row .read) s = gives b ∧
        (∀ r ∈ subRows, r.1 = s.ext.regIdx → exec (r.2 .read) s = gives b) ∧
        (subEntry s.cfg.extRegMap s.ext.regIdx.toNat = none → b = 0)) ∧
    (∀ p : BitVec 4, ∃ b, exec (.inp p) s = gives b ∧
      (∀ r ∈ fieldRows, portField s.cfg.extRegMap p = some r.1 → exec (r.2 .read) s = gives b) ∧
      (portField s.cfg.extRegMap p = none → b = 0) ∧
      (∀ r ∈ unnamedRows, r.1 = p → exec (r.2 .read) s = gives b))

/-- R343 to R345, R351, R282: what a write of each of the 42 sub-registers leaves under the default map, and what a read
answers: the byte lanes of the timing, display and cursor fields, the masked fields, the index registers, the palette and
sprite data, and the recalculation exactly where the map marks one; a cursor colour keeps `OUT_BITS` bits (R35, log 17). Under any map, an index without an entry ignores writes
and reads 0. The map is D22's (log 16), the reads are D21's, the recalculating rows are D27's,
the palette sequence D33's and the sprite load D26's; `dac_index` as what a read of 0x60 answers is log 36's. -/
def Obligations.SubRegistersWriteAndRead : Prop :=
  (∀ f ∈ subFields, ∀ (v : Byte) (s : State), s.cfg.extRegMap = Config.extRegMap →
    exec (f.row (.write v)) s = .next (f.set s v) ∧
    exec (f.row .read) s = .next { s with answer := .data [some (f.get s)] }) ∧
  (∀ r ∈ subRows, ∀ (v : Byte) (s : State), subEntry s.cfg.extRegMap r.1.toNat = none →
    exec (r.2 (.write v)) s = .next s ∧ exec (r.2 .read) s = .next { s with answer := .data [some 0] })

/-- R115, R396, R343: writing the two bytes of a 16-bit display field in either order leaves the same field as one 16-bit
write, and the recalculation runs once, at the high byte: after low then high it has seen the new value, after high then
low it saw the old low byte. (The indices are the default map's, D22; which bytes recalculate is D27's.) -/
def Obligations.SplitTimingWritesRecalculateOnce : Prop :=
  ∀ p ∈ splitFields, ∀ (v : Half) (s : State), s.cfg.extRegMap = Config.extRegMap →
    let whole : State := s.withCrtc (p.2.2.2 s.ext.crtc v)
    let highOnly : State := s.withCrtc (p.2.2.2 s.ext.crtc (highByte v ++ lowByte (p.2.2.1 s.ext.crtc)))
    s.execAll [p.1 (.write (lowByte v)), p.2.1 (.write (highByte v))] = .next whole.recalc ∧
    s.execAll [p.2.1 (.write (highByte v)), p.1 (.write (lowByte v))] =
      .next { whole.recalc with eff := highOnly.recalc.eff } ∧
    p.2.2.1 (p.2.2.2 s.ext.crtc v) = v

/-- R283: the recalculation sets the effective values and arms the force-redraw counter with the frame counter (D27), and
nothing else; the OPEN rule gives the free function of the timing fields (log 12), and the reference instantiation copies
the fields of the table. -/
def Obligations.RecalculationCopiesTable : Prop :=
  ∀ (c : CrtcRegs) (s : State),
    let r : State := (s.withCrtc c).recalc
    r = { s.withCrtc c with eff := r.eff, raster := { s.raster with fullchange := s.raster.changeframecount } } ∧
    (s.cfg.recalc = .free → r.eff = Config.recalc c) ∧
    (s.cfg.recalc = .identity →
      r.eff.vTotal = c.vtotal.toNat ∧ r.eff.dispend = c.vdispend.toNat ∧ r.eff.vSyncstart = c.vsyncstart.toNat ∧
      r.eff.split = c.linecmp.toNat ∧ r.eff.hDisp = c.hdispend.toNat ∧ r.eff.rowoffset = c.dispPitch.toNat ∧
      r.eff.maLatch = c.dispAddr.toNat ∧ r.eff.rowcount = 0 ∧ (r.eff.interlace = true ↔ c.dispMode.getLsbD 3 = true) ∧
      (r.eff.bpp16 = true ↔ c.dispMode.toNat % 8 = 4))

/-- R344: after an index write, three data bytes per entry commit red, green, blue to successive palette entries, the index
wrapping at 256; every other entry keeps its value, and an unfinished entry is not committed (order, commit, increment
and reset of the sequence: D33; the indices are the default map's, D22). -/
def Obligations.PaletteLoadCommitsTriples : Prop :=
  ∀ (i : Byte) (entries : List Rgb) (s : State), s.cfg.extRegMap = Config.extRegMap → entries.length ≤ 256 →
    ∃ t : State,
      s.execAll (.idx60 (.write i) ::
        entries.flatMap (fun e => [.idx65 (.write e.r), .idx65 (.write e.g), .idx65 (.write e.b)])) = .next t ∧
      t.ext.dacIndex = i + BitVec.ofNat 8 entries.length ∧ t.ext.dacSeq = .red ∧
      (∀ k e, entries[k]? = some e → t.paletteAt ((i.toNat + k) % 256) = e) ∧
      (∀ j, (∀ k < entries.length, j ≠ (i.toNat + k) % 256) → t.paletteAt j = s.paletteAt j) ∧
      t = { s with
        palette := t.palette
        ext := { s.ext with
          dacIndex := t.ext.dacIndex, dacSeq := .red, dacR := t.ext.dacR, dacG := t.ext.dacG
          spriteIdx := t.ext.spriteIdx } }

/-- R345: after the two index writes, data bytes go to successive bytes of the sprite buffer, the pointer wrapping at 1024;
every other byte keeps its value (the loading mechanism is D26's, the indices are the default map's, D22). -/
def Obligations.SpriteLoadStoresSuccessiveBytes : Prop :=
  ∀ (lo hi : Byte) (bytes : List Byte) (s : State), s.cfg.extRegMap = Config.extRegMap → bytes.length ≤ 1024 →
    let start : Nat := (hi.toNat % 4) * 256 + lo.toNat
    ∃ t : State,
      s.execAll (.idx60 (.write lo) :: .idx61 (.write hi) :: bytes.map (fun b => .idx6a (.write b))) = .next t ∧
      t.ext.spriteIdx.toNat = (start + bytes.length) % 1024 ∧
      (∀ k b, bytes[k]? = some b → t.spriteAt ((start + k) % 1024) = b) ∧
      (∀ j, (∀ k < bytes.length, j ≠ (start + k) % 1024) →
        t.spriteAt j = s.spriteAt j) ∧
      t = { s with
        spriteData := t.spriteData
        ext := { s.ext with dacIndex := lo, dacSeq := .red, spriteIdx := t.ext.spriteIdx } }

/-- R37, R46, R348, R352, R353: what the events of the host outside the table do to an attached device: the three flags, the
two aperture bases with the remapping (aperture control above 1: D34), the legacy layer's unstamped write while `on` is
false (D32; refused while `on` is true, log 20), and the legacy CRTC file: its read, and its guarded write. A write of
register 0 to 6 under the lock bit is dropped, a write of register 7 under the protect bit goes through the filter, any
other write stores the byte; where the two bits live and what the filter does are free (log 21). -/
def Obligations.HostSettingsTakeEffect : Prop :=
  ∀ (s : State) (e : HostEvent) (rest : List HostEvent), s.attached = true → s.inbox = e :: rest →
    let u : State := { s with inbox := rest }
    let remapped : Ext → State := fun x =>
      let m : Mapping :=
        if x.apertureCntl = 1 then .banked s.cfg.bankedBase
        else if x.apertureCntl = 0 then
          if x.baseAddr1mb ≠ 0 then .linear x.baseAddr1mb 0x100000 else .linear x.linearBase 0x400000
        else .unmapped
      { u with
        ext := { x with bankedMask := if x.apertureCntl = 1 then 0xFFFF else x.bankedMask }
        mapping := m
        outputs := .mapRequest m :: s.outputs }
    (∀ v, e = .setOn v → step s = .next { u with flags := { s.flags with on := v } }) ∧
    (∀ v, e = .setLinearEndianReverse v → step s = .next { u with flags := { s.flags with linearEndianReverse := v } }) ∧
    (∀ v, e = .setCursorDataOn v → step s = .next { u with flags := { s.flags with cursorDataOn := v } }) ∧
    (∀ v, e = .setLinearBase v → step s = .next (remapped { s.ext with linearBase := v })) ∧
    (∀ v, e = .setBaseAddr1mb v → step s = .next (remapped { s.ext with baseAddr1mb := v })) ∧
    (∀ a v, e = .legacyVramWrite a v → s.flags.on = false →
      ∃ t : State, step s = .next t ∧ t = { u with vram := t.vram } ∧
        ∀ b, t.vramAt b = if b = a ∧ a < HostConfig.vramSize s.cfg then v else s.vramAt b) ∧
    (∀ a v, e = .legacyVramWrite a v → s.flags.on = true → step s = .refused .legacyWriteWhileOn) ∧
    (∀ k, e = .legacyCrtcRead k →
      step s = .next { u with answer := .data [some (s.crtcAt k.toNat)] }) ∧
    (∀ k v, e = .legacyCrtcWrite k v →
      ∃ t : State, step s = .next t ∧ t = { u with legacyCrtc := t.legacyCrtc } ∧
        ∀ j, t.crtcAt j =
          if j ≠ k.toNat then s.crtcAt j
          else if Config.crtcLocked s.legacyCrtc = true ∧ j ≤ 6 then s.crtcAt j
          else if Config.crtcProtected s.legacyCrtc = true ∧ j = 7 then Config.crtcFilter7 (s.crtcAt j) v
          else v)

/-- R349, R250: the memory-mapped window. A read answers byte by byte: the boot ROM below 0x1800, which is the image that the
attach stored as far as it goes (beyond it a free value, log 15), the register block from 0x1800 to 0x187F,
`OOR_READ_BYTE` up to 0x1FFF (D34; beyond the window the device supplies nothing, log 19). A write is a write of the
register block by those of its bytes that fall into it; the others are ignored. -/
def Obligations.MappedWindowDispatches : Prop :=
  ∀ (s : State) (off : BitVec 13) (len : Len) (val : Word) (rest : List HostEvent), s.attached = true →
    let u : State := { s with inbox := rest }
    let byteAt : Nat → Option Byte := fun o =>
      if o < 0x1800 then some (s.romByte o)
      else if o < 0x1880 then some (s.rdByte (o - 0x1800))
      else if o < 0x2000 then some s.cfg.oorByte
      else none
    (s.inbox = .windowRead off len :: rest →
      step s = .next { u with answer := .data ((List.range len.bytes).map (fun k => byteAt (off.toNat + k))) }) ∧
    (s.inbox = .windowWrite off len val :: rest →
      (off.toNat + len.bytes ≤ 0x1800 ∨ 0x1880 ≤ off.toNat → step s = .next u) ∧
      (∀ o : BitVec 7, off.toNat = 0x1800 + o.toNat → step s = exec (.wr o len val) u) ∧
      (∀ k, 0 < k → k < len.bytes → off.toNat + k = 0x1800 →
        step s = .next (u.withAcc (accMerge s.cfg.accelRegMap s.acc 0 ((bytesOf val len.bytes).drop k))))) ∧
    (off.toNat < 0x1800 → exec (.mmr off) s = .next { s with answer := .data [some (s.romByte off.toNat)] }) ∧
    ∀ o : Nat, s.romByte o = if h : o < s.cfg.rom.length then s.cfg.rom[o] else Config.romByte o

/-! ## Memory -/

/-- R71, R72, R75: `VramWrite` of any number of bytes at any address: each byte inside video memory is stored, lowest first,
and its page (4 KiB) stamped with the frame counter, whether or not the byte changes; the others are dropped; every other
byte and every other page keep their values, and nothing else changes (bytewise splitting: D35). -/
def Obligations.VramWriteStoresAndStamps : Prop :=
  ∀ (s : State) (a : Nat) (bs : List Byte), s.memoriesCanonical →
    let t : State := s.vramWrite a bs
    (∀ i, t.vramAt i =
      if a ≤ i ∧ i < a + bs.length ∧ i < HostConfig.vramSize s.cfg then bs.getD (i - a) 0 else s.vramAt i) ∧
    (∀ p, (∃ i, a ≤ i ∧ i < a + bs.length ∧ i < HostConfig.vramSize s.cfg ∧ i / 4096 = p) →
      t.dirty p = s.raster.changeframecount) ∧
    (∀ p, (∀ i, a ≤ i → i < a + bs.length → i < HostConfig.vramSize s.cfg → i / 4096 ≠ p) → t.dirty p = s.dirty p) ∧
    t = { s with vram := t.vram, changedvram := t.changedvram }

/-- R71, R74, R76, R77: the accelerator's view. Inside its 1 MiB window a read is the little-endian value of the bytes of
video memory, each byte beyond it the sentinel, and a write is `VramWrite` of the low bytes; outside the window a read is
the oracle's answer, which only advances the oracle's count (log 14), and a write is one call to the host with the
address, the width and the value. The window test is made on the first byte alone. Where the window stands and the
sentinel are D8's and D9's parameters. -/
def Obligations.AcceleratorReachesWindowOrSystem : Prop :=
  ∀ (s : State) (a v : Word) (n : Nat), n ∈ [1, 2, 4] →
    let w0 : Nat := s.cfg.accelWindowMiB.toNat * 0x100000
    let byteAt : Nat → Nat := fun i =>
      if i < 2 ^ s.cfg.vramLog2.toNat then (s.vramAt i).toNat else s.cfg.oorByte.toNat
    (w0 ≤ a.toNat → a.toNat < w0 + 0x100000 →
      (s.accelRead a n).2 = s ∧
      (s.accelRead a n).1.toNat = ((List.range n).map (fun k => byteAt (a.toNat - w0 + k) * 256 ^ k)).sum ∧
      s.accelWrite a n v = s.vramWrite (a.toNat - w0) (bytesOf v n)) ∧
    (a.toNat < w0 ∨ w0 + 0x100000 ≤ a.toNat →
      (s.accelRead a n).2 = { s with sysReads := s.sysReads + 1 } ∧
      (s.accelRead a n).1.toNat = (Config.sysRead s.sysReads a n).toNat % 256 ^ n ∧
      s.accelWrite a n v =
        { s with outputs := .sysWrite a n (BitVec.ofNat 32 (v.toNat % 256 ^ n)) :: s.outputs })

/-- R74, R346, R347, R356: an aperture access inside the mapped window is `VramRead` or `VramWrite` at the offset of the banked
or of the linear window, each byte beyond video memory read as the sentinel (D9); while no window is mapped it is no event
of this device (no byte is supplied, nothing changes: log 19). Neither aperture tests `on`. -/
def Obligations.ApertureAccessGoesToVideoMemory : Prop :=
  ∀ (s : State) (addr : Word) (len : Len) (val : Word),
    let bytesAt : Nat → List (Option Byte) := fun off =>
      (List.range len.bytes).map (fun k =>
        some (if off + k < HostConfig.vramSize s.cfg then s.vramAt (off + k) else s.cfg.oorByte))
    (∀ base : Word, s.mapping = .banked base → base.toNat ≤ addr.toNat → addr.toNat + len.bytes ≤ base.toNat + 0x10000 →
      let off : Nat := s.ext.apIdx.toNat * 0x10000 + ((addr.toNat - base.toNat) &&& s.ext.bankedMask.toNat)
      exec (.apw addr len val) s = .next (s.vramWrite off (bytesOf val len.bytes)) ∧
      exec (.apr addr len) s = .next { s with answer := .data (bytesAt off) }) ∧
    (∀ (base : Word) (size : Nat), s.mapping = .linear base size → base.toNat ≤ addr.toNat →
      addr.toNat + len.bytes ≤ base.toNat + size →
      exec (.apw addr len val) s = .next (s.vramWrite (addr.toNat - base.toNat) (bytesOf val len.bytes)) ∧
      exec (.apr addr len) s = .next { s with answer := .data (bytesAt (addr.toNat - base.toNat)) }) ∧
    (s.mapping = .unmapped →
      exec (.apw addr len val) s = .next s ∧
      exec (.apr addr len) s = .next { s with answer := .data (List.replicate len.bytes none) })

/-- R71, R80, R81, R347: what an aperture write stores, the next aperture read at the same address answers, lowest byte first,
with no operation between them (here in the linear window and inside video memory). -/
def Obligations.ApertureWriteReadsBack : Prop :=
  ∀ (s : State) (addr : Word) (len : Len) (val : Word) (base : Word) (size : Nat),
    s.memoriesCanonical → s.mapping = .linear base size → base.toNat ≤ addr.toNat →
    addr.toNat + len.bytes ≤ base.toNat + size → addr.toNat + len.bytes ≤ base.toNat + HostConfig.vramSize s.cfg →
    ∃ t : State, exec (.apw addr len val) s = .next t ∧
      exec (.apr addr len) t = .next { t with answer := .data ((bytesOf val len.bytes).map some) }

/-! ## Pixels -/

/-- R130, R131, R133 to R139: the address, the bit and the bytes of a pixel access at each depth: `read_pixel` and
`write_pixel` of a map take the row of the map's own depth code and packed flag, and the row alone takes its own in their
place (log 28), its read answering the value. Coordinates are integers of any size. Depth codes are D5's, the two
access-mode predicates D10's (free unless the record gives a table, log 10), the reductions D4's and D7's. -/
def Obligations.PixelRowsReachTheirBytes : Prop :=
  ∀ (s : State) (packed : Bool) (m : BitVec 2),
    let d : MapDesc := s.mapDesc m
    let w : Nat := d.width.toNat + s.cfg.mapDimBias
    let at1 : Int → Int → Word := fun x y => BitVec.ofInt 32 (d.base.toNat + y * (w / 8 : Nat) + x / 8)
    let at8 : Int → Int → Word := fun x y => BitVec.ofInt 32 (d.base.toNat + y * w + x)
    let at16 : Int → Int → Word := fun x y => BitVec.ofInt 32 (d.base.toNat + y * (w * 2 : Nat) + x * 2)
    let mode : Option (BitVec 256) → Bool → Bool := fun table free =>
      (table.map (fun bits => bits.getLsbD s.ext.accessMode.toNat)).getD free
    let low : Bool :=
      !s.flags.linearEndianReverse && packed && !mode s.cfg.access8 (Config.access8 s.ext.accessMode)
    let bit : Int → Nat := fun x => if low then (x % 8).toNat else 7 - (x % 8).toNat
    let swap : Bool := s.flags.linearEndianReverse && mode s.cfg.swap16 (Config.swap16 s.ext.accessMode)
    let turn : Word → Word := fun p =>
      if swap then (p.extractLsb' 0 8 ++ p.extractLsb' 8 8).setWidth 32 else (p.extractLsb' 0 16).setWidth 32
    let read1 : Int → Int → Word × State := fun x y =>
      let b : Word × State := s.accelRead (at1 x y) 1
      (if b.1.getLsbD (bit x) then 1 else 0, b.2)
    let write1 : Int → Int → Word → State := fun x y v =>
      let b : Word × State := s.accelRead (at1 x y) 1
      b.2.accelWrite (at1 x y) 1
        ((b.1 &&& ~~~(1#32 <<< bit x)) ||| (if v.getLsbD 0 then 1#32 <<< bit x else 0))
    let read8 : Int → Int → Word × State := fun x y => s.accelRead (at8 x y) 1
    let read16 : Int → Int → Word × State := fun x y =>
      let b : Word × State := s.accelRead (at16 x y) 2
      (turn b.1, b.2)
    let answers : Instr → Word × State → Prop := fun i r => exec i s = .next { r.2 with answer := .value r.1 }
    let code : BitVec 3 := d.format.extractLsb' 0 3
    (d.format.getLsbD 3 = packed → ∀ (x y : Int) (v : Word),
      (code = 0 → s.readPixel m x y = read1 x y ∧ s.writePixel m x y v = write1 x y v) ∧
      (code = 3 → s.readPixel m x y = read8 x y ∧ s.writePixel m x y v = s.accelWrite (at8 x y) 1 v) ∧
      (code = 4 → s.readPixel m x y = read16 x y ∧ s.writePixel m x y v = s.accelWrite (at16 x y) 2 (turn v)) ∧
      (code ≠ 0 → code ≠ 3 → code ≠ 4 → s.readPixel m x y = (0, s) ∧ s.writePixel m x y v = s)) ∧
    ∀ x y v : Word,
      answers (.pf1 packed (.read m x y)) (read1 x.toInt y.toInt) ∧
      exec (.pf1 packed (.write m x y v)) s = .next (write1 x.toInt y.toInt v) ∧
      answers (.pf8 packed (.read m x y)) (read8 x.toInt y.toInt) ∧
      exec (.pf8 packed (.write m x y v)) s = .next (s.accelWrite (at8 x.toInt y.toInt) 1 v) ∧
      answers (.pf16 packed (.read m x y)) (read16 x.toInt y.toInt) ∧
      exec (.pf16 packed (.write m x y v)) s = .next (s.accelWrite (at16 x.toInt y.toInt) 2 (turn v)) ∧
      ∀ row ∈ [Instr.pfRsvd1, Instr.pfRsvd2, Instr.pfRsvd5, Instr.pfRsvd6, Instr.pfRsvd7],
        answers (row packed (.read m x y)) (0, s) ∧ exec (row packed (.write m x y v)) s = .next s

/-- R75, R76, R135 to R140: what a pixel write changes: the bytes of video memory that the pixel occupies (of a 1-bit pixel's
byte only the pixel's bit), the dirty counters of their pages, which take the frame counter, and, for a pixel outside the
window, the host's lists; every other byte and every other page's counter keeps its value, and nothing else changes. -/
def Obligations.PixelWriteFrame : Prop :=
  ∀ (s : State) (m : BitVec 2) (x y : Int) (v : Word), s.memoriesCanonical →
    let t : State := s.writePixel m x y v
    let occupied : Nat → Prop := s.pixelByte (s.mapDesc m) x y
    (∀ b, ¬ occupied b → t.vramAt b = s.vramAt b) ∧
    (depthOf (s.mapDesc m).format = .one → ∀ b k, k ≠ s.bitpos (s.mapDesc m) x →
      (t.vramAt b).getLsbD k = (s.vramAt b).getLsbD k) ∧
    (∀ b, occupied b → t.dirty (b / 4096) = s.raster.changeframecount) ∧
    (∀ p, (∀ b, occupied b → b / 4096 ≠ p) → t.dirty p = s.dirty p) ∧
    s.onlySysWrites t ∧
    t = { s with
      vram := t.vram, changedvram := t.changedvram, outputs := t.outputs, sysReads := t.sysReads }

/-- R76, R134 to R137, R140: a pixel written inside the window and inside video memory reads back as the low 1, 8 or 16 bits
of the value, whatever the bit order and the byte swap, under unchanged flags (R137's law; D4). -/
def Obligations.PixelWriteReadsBack : Prop :=
  ∀ (s : State) (m : BitVec 2) (x y : Int) (v a : Word) (n : Nat), s.memoriesCanonical →
    pixelAt s.cfg (s.mapDesc m) x y = some (a, n) → s.inWindow a = true →
    a.toNat - HostConfig.windowBase s.cfg + n ≤ HostConfig.vramSize s.cfg →
    let t : State := s.writePixel m x y v
    t.readPixel m x y = (v &&& depthMask (depthOf (s.mapDesc m).format), t)

/-- R102, R104 to R107, R182, R183: the fields of a command word under any layout, their default positions (D1), and the word
whose opcode field is given (log 27); and what each field value means, as its row answers it (log 1): draw-mode admission,
octant directions, pattern selector 8, map selectors modulo 4, and the clip test against the half-open rectangle at the
mask-map origin, of map 0's size, for the three non-zero mask modes. A row of the table stands for its field's value, in
the table's default layout (log 16). Octants are D2's, draw modes D13's, mask modes D12's. -/
def Obligations.CommandFieldRowsAnswer : Prop :=
  (∀ (l : CmdLayout) (w : Word),
    let bits : Nat → Nat → Nat := fun position width => w.toNat / 2 ^ position % 2 ^ width
    cmdFields l w = {
      opcode := BitVec.ofNat 4 (bits l.opcode 4), bgSrc := BitVec.ofNat 2 (bits l.bgSrc 2)
      fgSrc := BitVec.ofNat 2 (bits l.fgSrc 2), srcSel := BitVec.ofNat 4 (bits l.srcSel 4)
      dstSel := BitVec.ofNat 4 (bits l.dstSel 4), patSel := BitVec.ofNat 4 (bits l.patSel 4)
      maskMode := BitVec.ofNat 2 (bits l.maskMode 2), drawMode := BitVec.ofNat 2 (bits l.drawMode 2)
      octant := BitVec.ofNat 3 (bits l.octant 3) }) ∧
  Config.cmdLayout = {
    opcode := 28, bgSrc := 26, fgSrc := 24, srcSel := 20, dstSel := 16, patSel := 12, maskMode := 6, drawMode := 4
    octant := 0 } ∧
  (∀ (l : CmdLayout) (code : BitVec 4) (rest : BitVec 28),
    (cmdFields l (commandWord l code rest)).opcode = code ∧ commandWord Config.cmdLayout code rest = code ++ rest) ∧
  ∀ (s : State) (firstCol firstRow : Bool) (dx dy : Word) (sel : BitVec 4),
    let gives : Answer → Host.Outcome State Fault Refusal := fun a => .next { s with answer := a }
    let ox : Int := sext13 s.acc.maskOriginX
    let oy : Int := sext13 s.acc.maskOriginY
    let width : Int := s.acc.maps.m0.width.toNat + s.cfg.mapDimBias
    let height : Int := s.acc.maps.m0.height.toNat + s.cfg.mapDimBias
    let inside : Bool := decide (ox ≤ dx.toInt ∧ dx.toInt < ox + width ∧ oy ≤ dy.toInt ∧ dy.toInt < oy + height)
    exec (.dmEvery firstCol firstRow) s = gives (.verdict true) ∧
    exec (.dmNotFirstCol firstCol firstRow) s = gives (.verdict (!firstCol)) ∧
    exec (.dmNotFirstRow firstCol firstRow) s = gives (.verdict (!firstRow)) ∧
    exec (.dm3 firstCol firstRow) s = gives (.verdict true) ∧
    exec (.clipOff dx dy) s = gives (.verdict true) ∧
    (∀ row ∈ [Instr.clipOn1, Instr.clipOn2, Instr.clipOn3], exec (row dx dy) s = gives (.verdict inside)) ∧
    exec .oct0 s = gives (.directions 1 1 false) ∧
    exec .oct1 s = gives (.directions 1 1 true) ∧
    exec .oct2 s = gives (.directions 1 (-1) false) ∧
    exec .oct3 s = gives (.directions 1 (-1) true) ∧
    exec .oct4 s = gives (.directions (-1) 1 false) ∧
    exec .oct5 s = gives (.directions (-1) 1 true) ∧
    exec .oct6 s = gives (.directions (-1) (-1) false) ∧
    exec .oct7 s = gives (.directions (-1) (-1) true) ∧
    exec .patNone s = gives (.verdict true) ∧
    exec (.srcMapSel sel) s = gives (.mapIndex (BitVec.ofNat 2 (sel.toNat % 4))) ∧
    exec (.dstMapSel sel) s = gives (.mapIndex (BitVec.ofNat 2 (sel.toNat % 4)))

/-- R107, R108, R117, R184, R185, R202: what the rows of the gate, the source and the pattern answer (log 1). A comparison
is of the destination pixel with the whole compare register, unsigned; code 4 is a parameter (D11). Source select 2 reads
the source map, the others take the path's colour register whole; a pattern pixel selects the foreground where it is not
zero (D36). -/
def Obligations.GateSourceAndPatternRowsAnswer : Prop :=
  ∀ (s : State) (dest : Word) (sel : BitVec 4) (x y : Word),
    let gives : Prop → Host.Outcome State Fault Refusal → Prop := fun p o =>
      (p → o = .next { s with answer := .verdict true }) ∧ (¬ p → o = .next { s with answer := .verdict false })
    let d : Nat := dest.toNat
    let c : Nat := s.acc.colorCmp.toNat
    let pixel : Word × State := s.readPixel (BitVec.ofNat 2 (sel.toNat % 4)) x.toInt y.toInt
    gives True (exec (.ccTrue dest) s) ∧
    gives (d > c) (exec (.ccGt dest) s) ∧
    gives (d = c) (exec (.ccEq dest) s) ∧
    gives (d < c) (exec (.ccLt dest) s) ∧
    gives (s.cfg.ccCode4Passes = true) (exec (.ccX4 dest) s) ∧
    gives (d ≥ c) (exec (.ccGe dest) s) ∧
    gives (d ≠ c) (exec (.ccNe dest) s) ∧
    gives (d ≤ c) (exec (.ccLe dest) s) ∧
    (∀ row ∈ [Instr.fgSrcColor0, Instr.fgSrcColor1, Instr.fgSrcColor3],
      exec (row sel x y) s = .next { s with answer := .value s.acc.frgdColor }) ∧
    (∀ row ∈ [Instr.bgSrcColor0, Instr.bgSrcColor1, Instr.bgSrcColor3],
      exec (row sel x y) s = .next { s with answer := .value s.acc.bkgdColor }) ∧
    exec (.fgSrcMap sel x y) s = .next { pixel.2 with answer := .value pixel.1 } ∧
    exec (.bgSrcMap sel x y) s = .next { pixel.2 with answer := .value pixel.1 } ∧
    exec (.patMap sel x y) s = .next { pixel.2 with answer := .verdict (decide (pixel.1.toNat ≠ 0)) }

/-- R109, R150 to R173: the 32 mix codes' rows answer what `apply_rop` computes for their code (log 1), and `apply_rop` takes
its code from the low 5 bits of the path's mix register. What each code computes is said by the four statements below. -/
def Obligations.MixRowsAnswerTheirCode : Prop :=
  (∀ r ∈ mixRows, ∀ (d s : Word) (st : State), exec (r.2 d s) st = .next { st with answer := .value (ropOf r.1 d s) }) ∧
  (∀ code : BitVec 5, ∃ r ∈ mixRows, r.1 = code) ∧
  (∀ (st : State) (d s : Word),
    st.applyRop true d s = ropOf (BitVec.ofNat 5 (st.acc.frgdMix.toNat % 32)) d s ∧
    st.applyRop false d s = ropOf (BitVec.ofNat 5 (st.acc.bkgdMix.toNat % 32)) d s)

/-- R151, R152, R154, R157 to R161, R163, R165, R166: the boolean mix codes whose operands the source's names fix. -/
def Obligations.BooleanMixResults : Prop :=
  ∀ d s : Word,
    ropOf 0x00 d s = 0 ∧
    ropOf 0x01 d s = s &&& d ∧
    ropOf 0x03 d s = s ∧
    ropOf 0x06 d s = s ^^^ d ∧
    ropOf 0x07 d s = s ||| d ∧
    ropOf 0x08 d s = ~~~s &&& ~~~d ∧
    ropOf 0x09 d s = s ^^^ ~~~d ∧
    ropOf 0x0A d s = ~~~d ∧
    ropOf 0x0C d s = ~~~s ∧
    (ropOf 0x0E d s = ~~~s ||| ~~~d ∧ ropOf 0x0E d s = ~~~(s &&& d)) ∧
    ropOf 0x0F d s = 0xFFFFFFFF

/-- R153, R155, R162, R164, R175: the four mix codes whose complemented operand is the spec's decision D3; with them, the
sixteen codes 0x00 to 0x0F are the sixteen boolean functions of a destination and a source bit, each exactly once. -/
def Obligations.SixteenBooleanMixes : Prop :=
  (∀ d s : Word,
    ropOf 0x02 d s = s &&& ~~~d ∧
    ropOf 0x04 d s = ~~~s &&& d ∧
    ropOf 0x0B d s = s ||| ~~~d ∧
    ropOf 0x0D d s = ~~~s ||| d) ∧
  (∀ f : Bool → Bool → Bool, ∃ code : BitVec 5, code.toNat < 16 ∧
    (∀ (d s : Word) (i : Nat), i < 32 → (ropOf code d s).getLsbD i = f (d.getLsbD i) (s.getLsbD i)) ∧
    ∀ other : BitVec 5, other.toNat < 16 →
      (∀ (d s : Word) (i : Nat), i < 32 → (ropOf other d s).getLsbD i = f (d.getLsbD i) (s.getLsbD i)) → other = code)

/-- R167 to R172: the arithmetic mix codes, on integers: the larger, the smaller, the sum clamped to 0xFF, the two
differences clamped to 0, the average of the untruncated sum, rounded down. -/
def Obligations.ArithmeticMixResults : Prop :=
  ∀ d s : Word,
    let D : Int := d.toNat
    let S : Int := s.toNat
    ((ropOf 0x10 d s).toNat : Int) = max S D ∧
    ((ropOf 0x11 d s).toNat : Int) = min S D ∧
    ((ropOf 0x12 d s).toNat : Int) = min 0xFF (S + D) ∧
    ((ropOf 0x13 d s).toNat : Int) = max 0 (D - S) ∧
    ((ropOf 0x14 d s).toNat : Int) = max 0 (S - D) ∧
    ((ropOf 0x15 d s).toNat : Int) = (S + D) / 2

/-- R156, R173: `NOP` and the undefined mix codes 0x16 to 0x1F give the destination; and a pixel step that gets as far as the
mix still writes the destination pixel, with its own value, and its page is stamped with the frame counter. -/
def Obligations.NopAndUndefinedMixesKeepDestination : Prop :=
  ∀ code : BitVec 5, code = 0x05 ∨ 0x16 ≤ code.toNat →
    (∀ d s : Word, ropOf code d s = d) ∧
    ∀ (st : State) (f : CmdFields) (c : StepCtx) (dest : Word),
      (if c.mix then st.acc.frgdMix else st.acc.bkgdMix).toNat % 32 = code.toNat →
      let map : BitVec 2 := BitVec.ofNat 2 (f.dstSel.toNat % 4)
      let t : State := st.combine f c dest
      t = (st.fetchSource f c.mix c.sx c.sy).2.writePixel map c.dx c.dy dest ∧
      ∀ (a : Word) (n : Nat), st.memoriesCanonical → pixelAt st.cfg (st.mapDesc map) c.dx c.dy = some (a, n) →
        st.inWindow a = true → a.toNat - HostConfig.windowBase st.cfg < HostConfig.vramSize st.cfg →
        t.dirty ((a.toNat - HostConfig.windowBase st.cfg) / 4096) = st.raster.changeframecount

/-- R176, R186: the plane mask: bits inside it come from the result, bits outside it from the old destination, whatever the
code; a mask of 0 keeps the old value, a full mask passes the result; and the pixel step merges the result of the mix of its
path's source (R185) with the destination it read, under the whole plane-mask register. -/
def Obligations.PlaneMaskMergesBits : Prop :=
  (∀ mask old new : Word,
    planeMerge mask old new = (new &&& mask) ||| (old &&& ~~~mask) ∧
    (∀ i, i < 32 → (planeMerge mask old new).getLsbD i = if mask.getLsbD i then new.getLsbD i else old.getLsbD i) ∧
    planeMerge 0 old new = old ∧ planeMerge 0xFFFFFFFF old new = new) ∧
  planeMerge 0x0F 0xF0 0x00 = 0xF0 ∧
  (∀ (s : State) (f : CmdFields) (c : StepCtx) (dest : Word),
    let src : Word × State :=
      if (if c.mix then f.fgSrc else f.bgSrc) = 2 then s.readPixel (BitVec.ofNat 2 (f.srcSel.toNat % 4)) c.sx c.sy
      else (if c.mix then s.acc.frgdColor else s.acc.bkgdColor, s)
    let code : BitVec 5 := BitVec.ofNat 5 ((if c.mix then s.acc.frgdMix else s.acc.bkgdMix).toNat % 32)
    s.combine f c dest =
      src.2.writePixel (BitVec.ofNat 2 (f.dstSel.toNat % 4)) c.dx c.dy
        ((ropOf code dest src.1 &&& s.acc.planeMask) ||| (dest &&& ~~~s.acc.planeMask)))

/-- R182 to R188, R373: the stages of the shared pixel step, in order: a step that the draw mode keeps out or that the
clip rectangle shuts out touches nothing; else the destination is read, and a failed comparison leaves it at that; else
source, mix and plane mask, and the write (the statement on the plane mask says that last stage in full). The clip
rectangle is half open, at the mask-map origin and of map 0's size; the comparison is unsigned, of the whole compare
register; the source of the foreground path is the source map's pixel under a foreground select of 2 and the whole
foreground colour register under any other, and the background path's likewise. (Admission D13, clip D12, comparison D11.) -/
def Obligations.PixelStepStages : Prop :=
  (∀ (s : State) (f : CmdFields) (c : StepCtx),
    let admitted : Prop := ¬ (f.drawMode = 1 ∧ c.firstCol = true) ∧ ¬ (f.drawMode = 2 ∧ c.firstRow = true)
    let clipped : Prop := f.maskMode ≠ 0 ∧ s.inClip c.dx c.dy = false
    let dest : Word × State := s.readPixel (BitVec.ofNat 2 (f.dstSel.toNat % 4)) c.dx c.dy
    (¬ admitted ∨ clipped → s.pixelStep f c = s) ∧
    (admitted → ¬ clipped → dest.2.ccPass s.acc.ccCond dest.1 = false → s.pixelStep f c = dest.2) ∧
    (admitted → ¬ clipped → dest.2.ccPass s.acc.ccCond dest.1 = true → s.pixelStep f c = dest.2.combine f c dest.1)) ∧
  (∀ (s : State) (x y : Int),
    let ox : Int := sext13 s.acc.maskOriginX
    let oy : Int := sext13 s.acc.maskOriginY
    s.inClip x y = true ↔
      ox ≤ x ∧ x < ox + (s.acc.maps.m0.width.toNat + s.cfg.mapDimBias : Nat) ∧
      oy ≤ y ∧ y < oy + (s.acc.maps.m0.height.toNat + s.cfg.mapDimBias : Nat)) ∧
  (∀ (s : State) (dest : Word),
    let d : Nat := dest.toNat
    let c : Nat := s.acc.colorCmp.toNat
    (List.range 8).map (fun k => s.ccPass (BitVec.ofNat 3 k) dest) =
      [true, decide (d > c), decide (d = c), decide (d < c), s.cfg.ccCode4Passes, decide (d ≥ c), decide (d ≠ c),
       decide (d ≤ c)]) ∧
  ∀ (s : State) (f : CmdFields) (sx sy : Int),
    let pixel : Word × State := s.readPixel (BitVec.ofNat 2 (f.srcSel.toNat % 4)) sx sy
    (f.fgSrc = 2 → s.fetchSource f true sx sy = pixel) ∧
    (f.fgSrc ≠ 2 → s.fetchSource f true sx sy = (s.acc.frgdColor, s)) ∧
    (f.bgSrc = 2 → s.fetchSource f false sx sy = pixel) ∧
    (f.bgSrc ≠ 2 → s.fetchSource f false sx sy = (s.acc.bkgdColor, s))

/-! ## Primitives -/

/-- R200 to R206: a BitBLT's walk, the pixel step of each iteration, and its end. After `k` iterations the column is
`k mod (blt_width + 1)` and the row `k / (blt_width + 1)`: every coordinate pair has moved by that much from the operand
registers, in the octant's directions, the source and the pattern taken modulo the width and the height of their maps where
they are tiled (R204), the counters count down. Each iteration reads the pattern pixel where a pattern is selected (R202),
then makes the pixel step at those coordinates, `first_col` in column 0 and `first_row` in row 0 (R203). After the last of
the `(blt_width + 1) * (blt_height + 1)` steps, `dst_map_x` holds the first column, `dst_map_y` the row past the last, and
every register else is as it was. Directions D2's, tiling D15's, first column and row D13's, the pattern test D36's, the end
D14's; the row stores its word, the opcode where the layout puts it (log 27). -/
def Obligations.BlitWalksRowsAndEndsPastLast : Prop :=
  ∀ (rest : BitVec 28) (s : State),
    let c : State := s.withAcc { s.acc with command := commandWord s.cfg.cmdLayout 0x8 rest }
    let f : CmdFields := c.cmd
    let xdir : Int := if f.octant.getLsbD 2 then -1 else 1
    let ydir : Int := if f.octant.getLsbD 1 then -1 else 1
    let w : Nat := s.acc.bltWidth.toNat
    let h : Nat := s.acc.bltHeight.toNat
    let src : MapDesc := s.mapDesc (BitVec.ofNat 2 (f.srcSel.toNat % 4))
    let patMap : BitVec 2 := BitVec.ofNat 2 (f.patSel.toNat % 4)
    let pat : MapDesc := s.mapDesc patMap
    let stile : Bool := s.cfg.srcTiled.getD (Config.srcTiled s.acc.maps c.acc.command)
    let ptile : Bool := decide (f.patSel ≠ 8) && s.cfg.patTiled.getD (Config.patTiled s.acc.maps c.acc.command)
    let wrap : Bool → Half → Int → Int := fun tiled dim v =>
      let n : Nat := dim.toNat + s.cfg.mapDimBias
      if tiled = true ∧ 0 < n then v % n else v
    let walked : Nat → State := fun k => iter k (State.blitIter c.blitParams) (c.withLive (c.blitStart c.blitParams))
    (∀ k : Nat,
      let col : Int := (k % (w + 1) : Nat)
      let row : Int := (k / (w + 1) : Nat)
      let l : Live := (walked k).live
      l = { sx := wrap stile src.width (sext13 s.acc.srcMapX + xdir * col)
            sy := wrap stile src.height (sext13 s.acc.srcMapY + ydir * row)
            px := wrap ptile pat.width (sext13 s.acc.patMapX + xdir * col)
            py := wrap ptile pat.height (sext13 s.acc.patMapY + ydir * row)
            dx := sext13 s.acc.dstMapX + xdir * col
            dy := sext13 s.acc.dstMapY + ydir * row
            x := w - col
            y := h - row } ∧
      let pixel : Word × State := (walked k).readPixel patMap l.px l.py
      let step : Bool → State → State := fun mix u =>
        u.pixelStep f { sx := l.sx, sy := l.sy, dx := l.dx, dy := l.dy, mix := mix
                        firstCol := decide (col = 0), firstRow := decide (row = 0) }
      walked (k + 1) =
        (if f.patSel = 8 then step true (walked k) else step (decide (pixel.1 ≠ 0)) pixel.2).withLive
          (walked (k + 1)).live) ∧
    ∃ t : State, exec (.opBitblt rest) s = .next t ∧
      t = (walked ((w + 1) * (h + 1))).writeBack ∧
      c.sameButDrawing t ∧
      t.acc.dstMapX = trunc16 (sext13 s.acc.dstMapX) ∧
      t.acc.dstMapY = trunc16 (sext13 s.acc.dstMapY + ydir * (h + 1))

/-- R136, R154, R180 to R188, R200, R201: a rectangle filled with the foreground colour. For a BitBLT without pattern, clip or
gate, mix `SRC`, a constant source, a plane mask that passes the low byte, into an 8-bit map: each byte of video memory
that some destination pixel of the rectangle addresses through the accelerator's window holds the colour's low byte
afterwards, and every other byte keeps its value. (Field positions D1, directions D2, window D8; the row
stores its word, the opcode where the layout puts it: log 27.) -/
def Obligations.SolidFillColoursItsRectangle : Prop :=
  ∀ (rest : BitVec 28) (s : State),
    let c : State := s.withAcc { s.acc with command := commandWord s.cfg.cmdLayout 0x8 rest }
    let d : MapDesc := s.mapDesc (BitVec.ofNat 2 (c.cmd.dstSel.toNat % 4))
    let xdir : Int := if c.cmd.octant.getLsbD 2 then -1 else 1
    let ydir : Int := if c.cmd.octant.getLsbD 1 then -1 else 1
    s.memoriesCanonical →
    c.cmd.patSel = 8 → c.cmd.fgSrc ≠ 2 → c.cmd.maskMode = 0 → (c.cmd.drawMode = 0 ∨ c.cmd.drawMode = 3) →
    s.acc.ccCond = 0 → s.acc.frgdMix.toNat % 32 = 3 → s.acc.planeMask.toNat % 256 = 255 →
    depthOf d.format = .eight →
    ∃ t : State, exec (.opBitblt rest) s = .next t ∧
      ∀ b : Nat,
        let hit : Prop := b < HostConfig.vramSize s.cfg ∧ b < 0x100000 ∧
          ∃ col row : Nat, col ≤ s.acc.bltWidth.toNat ∧ row ≤ s.acc.bltHeight.toNat ∧
            (addr8 s.cfg d (sext13 s.acc.dstMapX + xdir * col) (sext13 s.acc.dstMapY + ydir * row)).toNat =
              HostConfig.windowBase s.cfg + b
        (hit → t.vramAt b = s.acc.frgdColor.setWidth 8) ∧
        (¬ hit → t.vramAt b = s.vramAt b)

/-- R202, R220 to R225: a line's walk, the pixel step of each position, and its end. The error term starts at `bres_err_term`
and takes `bres_k1` where it is negative, else `bres_k2`, all three sign-extended from 14 bits (R222). Before the pixel step
of position `k` the major coordinate has moved `k` units and the minor one as many as error terms so far were not negative;
the source and pattern coordinates stay. Each position reads the pattern pixel where a pattern is selected (R202), then
makes the pixel step there, `first_col` at the first position and `first_row` at the last (R223). The destination registers
end at the last position, and every other register is as it was, `bres_err_term` among them. Octant D2's, first and last
position D13's, the error update, the constant source and the end D16's, the pattern test D36's; the row stores its word
(log 27). -/
def Obligations.LineWalksMajorAxis : Prop :=
  ∀ (rest : BitVec 28) (s : State),
    let c : State := s.withAcc { s.acc with command := commandWord s.cfg.cmdLayout 0x5 rest }
    let f : CmdFields := c.cmd
    let p : LineParams := c.lineParams
    let xdir : Int := if f.octant.getLsbD 2 then -1 else 1
    let ydir : Int := if f.octant.getLsbD 1 then -1 else 1
    let n : Nat := s.acc.bltWidth.toNat
    let err : Int := sext14 s.acc.bresErrTerm
    let xAt : Nat → Int := fun k =>
      sext13 s.acc.dstMapX + xdir * (if f.octant.getLsbD 0 then lineMinorSteps p err k else k : Nat)
    let yAt : Nat → Int := fun k =>
      sext13 s.acc.dstMapY + ydir * (if f.octant.getLsbD 0 then k else lineMinorSteps p err k : Nat)
    let patMap : BitVec 2 := BitVec.ofNat 2 (f.patSel.toNat % 4)
    let walked : Nat → Int × State := fun k => iter k (lineIter p) (err, c.withLive (c.loadLive 0 n))
    (∀ e : Int, lineErr p e = if e < 0 then e + sext14 s.acc.bresK1 else e + sext14 s.acc.bresK2) ∧
    (∀ k ≤ n,
      let u : State := (walked k).2
      (walked k).1 = lineErrAt p err k ∧
      u.live = { sx := sext13 s.acc.srcMapX, sy := sext13 s.acc.srcMapY, px := sext13 s.acc.patMapX,
                 py := sext13 s.acc.patMapY, dx := xAt k, dy := yAt k, x := k, y := n - k } ∧
      let pixel : Word × State := u.readPixel patMap (sext13 s.acc.patMapX) (sext13 s.acc.patMapY)
      let step : Bool → State → State := fun mix v =>
        v.pixelStep f { sx := sext13 s.acc.srcMapX, sy := sext13 s.acc.srcMapY, dx := xAt k, dy := yAt k, mix := mix
                        firstCol := decide (k = 0), firstRow := decide (k = n) }
      (walked (k + 1)).2 =
        (if f.patSel = 8 then step true u else step (decide (pixel.1 ≠ 0)) pixel.2).withLive (walked (k + 1)).2.live) ∧
    ∃ t : State, exec (.opLineDraw rest) s = .next t ∧
      t = (walked (n + 1)).2.writeBack ∧
      c.sameButDrawing t ∧ t.acc.dstMapX = trunc16 (xAt n) ∧ t.acc.dstMapY = trunc16 (yAt n)

/-- R222, R227: the standard midpoint line. With the terms that a host programs for a major extent `dmaj` and a minor extent
`dmin` (R222, from general knowledge), every position is within half a unit of the ideal line along the minor axis, and
the last of `dmaj` moves ends exactly `dmin` units away: for equal extents, every move is diagonal. -/
def Obligations.MidpointLineIsNearest : Prop :=
  ∀ (p : LineParams) (dmaj dmin : Nat), dmin ≤ dmaj → p.k1 = 2 * dmin → p.k2 = 2 * ((dmin : Int) - dmaj) →
    let m : Nat → Int := fun k => lineMinorSteps p (2 * (dmin : Int) - dmaj) k
    (∀ k ≤ dmaj, 2 * (m k * dmaj - k * dmin) ≤ dmaj ∧ 2 * ((k : Int) * dmin - m k * dmaj) ≤ dmaj) ∧
    m dmaj = dmin ∧
    (dmin = dmaj → ∀ k ≤ dmaj, m k = k)

/-- R110, R118, R202, R236 to R238, R240, R241: one stroke, by the row of its direction. Position `j` is `j` unit steps from
the start, the source and pattern coordinates stay. With the draw gate set, each of the `len + 1` positions reads the pattern
pixel where a pattern is selected (R202), then makes the pixel step there, `first_col` at the first position and
`first_row` at the last (R238); with the gate clear nothing is drawn and no memory access made. The destination registers
end `len` unit steps away, truncated to 16 bits, and every other register is as it was. (Directions, extent and the two
flags D17, D13, log 29; the pattern test D36.) -/
def Obligations.StrokesMoveAlongTheirDirection : Prop :=
  ∀ p ∈ strokeRows, ∀ (draw : Bool) (len : BitVec 4) (s : State),
    let f : CmdFields := s.cmd
    let n : Nat := len.toNat
    let xAt : Nat → Int := fun j => sext13 s.acc.dstMapX + j * p.2.2.1
    let yAt : Nat → Int := fun j => sext13 s.acc.dstMapY + j * p.2.2.2
    let patMap : BitVec 2 := BitVec.ofNat 2 (f.patSel.toNat % 4)
    let params : StrokeParams := { f := f, ddx := p.2.2.1, ddy := p.2.2.2, draw := draw }
    let walked : Nat → State := fun k => iter k (State.strokeIter params) (s.withLive (s.loadLive 0 n))
    strokeDirection p.1 = p.2.2 ∧
    (∀ j ≤ n,
      let u : State := walked j
      u.live = { sx := sext13 s.acc.srcMapX, sy := sext13 s.acc.srcMapY, px := sext13 s.acc.patMapX,
                 py := sext13 s.acc.patMapY, dx := xAt j, dy := yAt j, x := j, y := n - j } ∧
      let pixel : Word × State := u.readPixel patMap (sext13 s.acc.patMapX) (sext13 s.acc.patMapY)
      let step : Bool → State → State := fun mix v =>
        v.pixelStep f { sx := sext13 s.acc.srcMapX, sy := sext13 s.acc.srcMapY, dx := xAt j, dy := yAt j, mix := mix
                        firstCol := decide (j = 0), firstRow := decide (j = n) }
      walked (j + 1) =
        (if draw = false then u
          else if f.patSel = 8 then step true u else step (decide (pixel.1 ≠ 0)) pixel.2).withLive
          (walked (j + 1)).live) ∧
    ∃ t : State, exec (p.2.1 draw len) s = .next t ∧
      t = (walked (n + 1)).writeBack ∧
      s.sameButDrawing t ∧
      t.acc.dstMapX = trunc16 (xAt n) ∧ t.acc.dstMapY = trunc16 (yAt n) ∧
      (draw = false →
        t.vram = s.vram ∧ t.changedvram = s.changedvram ∧ t.outputs = s.outputs ∧ t.sysReads = s.sysReads)

/-- R236, R239, R240: after a whole short-stroke word the destination registers hold the start position plus the sum of the
four displacements, modulo the 13-bit wrap, and the short-stroke and command registers are as they were (D17). -/
def Obligations.ShortStrokesEndAtSum : Prop :=
  ∀ s : State,
    let stepsOf : Nat → Int × Int := fun k =>
      let b : Byte := byteLane s.acc.shortStroke k
      let len : Int := (b.extractLsb' 0 4).toNat
      (len * (strokeDirection (b.extractLsb' 5 3)).1, len * (strokeDirection (b.extractLsb' 5 3)).2)
    let t : State := s.shortStrokes
    s.sameButDrawing t ∧
    (sext13 t.acc.dstMapX - (sext13 s.acc.dstMapX + (stepsOf 0).1 + (stepsOf 1).1 + (stepsOf 2).1 + (stepsOf 3).1)) % 8192
      = 0 ∧
    (sext13 t.acc.dstMapY - (sext13 s.acc.dstMapY + (stepsOf 0).2 + (stepsOf 1).2 + (stepsOf 2).2 + (stepsOf 3).2)) % 8192
      = 0

/-- R138, R180, R182 to R188, R200, R220, R238, R239: what a drawing primitive can reach. Every byte of video memory that it
changes is a byte of the destination map's pixel at one of the positions it visits: of a BitBLT the columns and rows of its
rectangle, of a line the positions of its walk, of a stroke that draws its `len + 1` positions, of a short-stroke word
those of its drawing strokes, each from where the stroke before it ended. Under a non-zero mask mode that pixel lies inside
the clip rectangle (D12), whatever the mixes, patterns, sources and overlaps. Directions D2's, the line D16's, strokes
D17's. -/
def Obligations.PrimitivesWriteOnlyClippedPixels : Prop :=
  ∀ s : State, s.memoriesCanonical →
    let d : MapDesc := s.mapDesc (BitVec.ofNat 2 (s.cmd.dstSel.toNat % 4))
    let xdir : Int := if s.cmd.octant.getLsbD 2 then -1 else 1
    let ydir : Int := if s.cmd.octant.getLsbD 1 then -1 else 1
    let x0 : Int := sext13 s.acc.dstMapX
    let y0 : Int := sext13 s.acc.dstMapY
    let minor : Nat → Nat := lineMinorSteps s.lineParams (sext14 s.acc.bresErrTerm)
    let reaches : State → (Int → Int → Prop) → Prop := fun t visited =>
      ∀ b, t.vramAt b ≠ s.vramAt b →
        ∃ x y : Int, visited x y ∧ s.pixelByte d x y b ∧ (s.cmd.maskMode ≠ 0 → s.inClip x y = true)
    let along : State → BitVec 3 → BitVec 4 → Int → Int → Prop := fun u dir len x y =>
      ∃ j : Nat, j ≤ len.toNat ∧ x = sext13 u.acc.dstMapX + j * (strokeDirection dir).1 ∧
        y = sext13 u.acc.dstMapY + j * (strokeDirection dir).2
    let byteOf : Nat → Byte := byteLane s.acc.shortStroke
    reaches s.bitBlt (fun x y => ∃ col row : Nat, col ≤ s.acc.bltWidth.toNat ∧ row ≤ s.acc.bltHeight.toNat ∧
      x = x0 + xdir * col ∧ y = y0 + ydir * row) ∧
    reaches s.lineDraw (fun x y => ∃ k : Nat, k ≤ s.acc.bltWidth.toNat ∧
      x = x0 + xdir * (if s.cmd.octant.getLsbD 0 then minor k else k : Nat) ∧
      y = y0 + ydir * (if s.cmd.octant.getLsbD 0 then k else minor k : Nat)) ∧
    (∀ dir draw len, reaches (s.stroke dir draw len) (fun x y => draw = true ∧ along s dir len x y)) ∧
    reaches s.shortStrokes (fun x y => ∃ i < 4, (byteOf i).getLsbD 4 = true ∧
      along (((List.range i).map byteOf).foldl State.strokeByte s) ((byteOf i).extractLsb' 5 3)
        ((byteOf i).extractLsb' 0 4) x y)
/-! ## Raster and cursor -/

/-- R46, R285, R286, R290, R294, R377: the cursor trigger, in every state, and the ticks that draw nothing. On the line equal
to the latched y the cursor shows from its row `yoff`, in the primary field; when interlaced, on the line after it from the
row below, in the secondary field; on any other line nothing changes (D26; for a latched y of -1 the pseudocode is
followed, not the rule's last sentence: log 38). An active line entered while the display is off only runs the trigger,
sets `linepos` and advances the line by one, by two when interlaced. A tick delivered while `on` is false changes
nothing: R285 makes `on` a precondition of the tick, and this no-effect is the model's choice (log 18, after D32). -/
def Obligations.UndisplayedActiveLineCounts : Prop :=
  ∀ s : State,
    let r : Raster := s.raster
    let line : Int := r.displine.toNat
    let first : Prop := r.latch.ena = true ∧ line = sext16 r.latch.y
    let second : Prop := r.latch.ena = true ∧ s.eff.interlace = true ∧ line = sext16 r.latch.y + 1
    let g : State := s.cursorTrigger
    (¬ first → ¬ second → g = s) ∧
    (first → g = { s with raster := { r with
      hwcursorOn := BitVec.ofNat 7 (64 - r.latch.yoff.toNat), hwcursorOddeven := false
      latch := { r.latch with addr := BitVec.ofNat 10 (r.latch.yoff.toNat * 16) } } }) ∧
    (second → g = { s with raster := { r with
      hwcursorOn := BitVec.ofNat 7 (64 - (r.latch.yoff.toNat + 1)), hwcursorOddeven := true
      latch := { r.latch with addr := BitVec.ofNat 10 ((r.latch.yoff.toNat + 1) * 16) } } }) ∧
    (s.flags.on = false → exec .tick s = .next s) ∧
    (s.flags.on = true → r.linepos = false → r.dispon = false →
      exec .tick s = .next { g with raster := { g.raster with
        linepos := true
        displine := BitVec.ofNat 16 (r.displine.toNat + if s.eff.interlace then 2 else 1) } })

/-- R286, R291 to R294: a displayed active line on which no cursor row shows once the cursor trigger has run (the statement
above says what the trigger leaves). If the page of `ma`, the next page or the force-redraw counter is marked, output pixel
`i` of the line becomes the conversion of the byte, or of the 16-bit pixel, at `ma` plus its offset, wrapped at the size of
video memory, and no other output pixel changes; if none is marked, none changes. The buffer synchronisation, the draw
markers, the address advance, `lastline` and `displine` are as R286 lists them (D23; the conversions are free, log 13; a
pixel keeps `OUT_BITS` bits, D26; `FIRSTLINE_NONE` as the sentinel of `firstline_draw`: log 39). -/
def Obligations.ActiveLineRendersPixels : Prop :=
  ∀ s : State, s.flags.on = true → s.raster.linepos = false → s.raster.dispon = true →
    s.cursorTrigger.raster.hwcursorOn = 0 →
    let r : Raster := s.cursorTrigger.raster
    let none : Half := s.cfg.firstlineNone
    let size : Nat := 2 ^ s.cfg.vramLog2.toNat
    let ma : Nat := r.ma.toNat
    let line : Nat := r.displine.toNat
    let byteAt : Nat → Byte := fun a => s.vramAt (a % size)
    let pixel : Nat → Pixel := fun i =>
      (if s.eff.bpp16 then Config.rgb565 s.cfg.outBits (byteAt (ma + 2 * i + 1) ++ byteAt (ma + 2 * i))
        else Config.pal s.cfg.outBits (byteAt (ma + i)) (s.paletteAt (byteAt (ma + i)).toNat)) % 2 ^ s.cfg.outBits
    let gate : Prop := s.dirty (ma / 4096) ≠ 0 ∨ s.dirty (ma / 4096 + 1) ≠ 0 ∨ r.fullchange ≠ 0
    ∃ t : State, exec .tick s = .next t ∧
      (gate → ∀ (l : Half) (i : Nat),
        t.fbRead l i = if l = r.displine ∧ i < s.eff.hDisp then pixel i else s.fbRead l i) ∧
      (¬ gate → t.fb = s.fb) ∧
      (gate → t.raster.lastlineDraw = r.displine ∧
        t.raster.firstlineDraw = if r.firstlineDraw = none then r.displine else r.firstlineDraw) ∧
      (¬ gate → t.raster.lastlineDraw = r.lastlineDraw ∧ t.raster.firstlineDraw = r.firstlineDraw) ∧
      t = { s with
        fb := t.fb
        outputs := if r.firstline = none then .waitForBuffer :: s.outputs else s.outputs
        raster := { r with
          linepos := true
          firstline := if r.firstline = none then r.displine else r.firstline
          lastline := if r.lastline.toNat < line then r.displine else r.lastline
          firstlineDraw := t.raster.firstlineDraw
          lastlineDraw := t.raster.lastlineDraw
          ma := BitVec.ofNat 32 ((ma + s.eff.hDisp * if s.eff.bpp16 then 2 else 1) % size)
          displine := BitVec.ofNat 16 (line + if s.eff.interlace then 2 else 1) } }

/-- R321 to R326: the cursor compositor. On an output column that a sprite column from the skip offset on covers, the 2-bit
code of the sprite row decides: overlay colour 0, overlay colour 1, unchanged, or every bit inverted; every other output
pixel is unchanged. The read pointer advances by one sprite row, by two when interlaced. (Order in a byte, placement,
pointer and the width `OUT_BITS`: D26; the skip flag: D32.) -/
def Obligations.CursorCompositesSpriteRow : Prop :=
  ∀ (s : State) (line : Half),
    let l : CursorLatch := s.raster.latch
    let x0 : Int := sext16 l.x - l.xoff.toNat
    let skip : Int := if s.flags.cursorDataOn then 0 else 32
    let code : Nat → Nat := fun x =>
      let i : Nat := ((x : Int) - x0).toNat
      (s.spriteAt ((l.addr.toNat + i / 4) % 1024)).toNat / 4 ^ (i % 4) % 4
    let t : State := s.cursorDraw line
    (∀ x : Nat, x < s.eff.hDisp → skip ≤ x - x0 → x - x0 < 64 →
      t.fbRead line x =
        if code x = 0 then s.ext.hwcColor0.toNat % 2 ^ s.cfg.outBits
        else if code x = 1 then s.ext.hwcColor1.toNat % 2 ^ s.cfg.outBits
        else if code x = 2 then s.fbRead line x
        else (s.fbRead line x ^^^ (2 ^ s.cfg.outBits - 1)) % 2 ^ s.cfg.outBits) ∧
    (∀ (k : Half) (x : Nat), k ≠ line ∨ s.eff.hDisp ≤ x ∨ (x : Int) - x0 < skip ∨ 64 ≤ (x : Int) - x0 →
      t.fbRead k x = s.fbRead k x) ∧
    t = { s with
      fb := t.fb
      raster := { s.raster with
        latch := { l with addr := l.addr + 16 + if s.eff.interlace then 16 else 0 } } }

/-- R286, R291 to R294: a displayed active line on which a cursor row shows once the cursor trigger has run: the trigger line
and every line under the cursor. The two pages that the renderer looks at are stamped with the frame counter, which opens
the renderer's gate for them; the line is rendered as on any other line (or, where no gate is open, left), the sprite row is
composited over it (the compositor's own statement is above), and the count of cursor rows goes down by one, by two when
interlaced; everything else is as on a line without a cursor. (The place of the stamp and the order are D23's, the count
and the pointer D26's; the conversions are free, log 13; the sentinel of `firstline_draw`: log 39.) -/
def Obligations.CursorLineIsMarkedAndDrawn : Prop :=
  ∀ s : State, s.flags.on = true → s.raster.linepos = false → s.raster.dispon = true →
    s.cursorTrigger.raster.hwcursorOn ≠ 0 → s.memoriesCanonical →
    let g : State := s.cursorTrigger
    let r : Raster := g.raster
    let none : Half := s.cfg.firstlineNone
    let size : Nat := 2 ^ s.cfg.vramLog2.toNat
    let ma : Nat := r.ma.toNat
    let line : Nat := r.displine.toNat
    let step : Nat := if s.eff.interlace then 2 else 1
    let byteAt : Nat → Byte := fun a => s.vramAt (a % size)
    let pixel : Nat → Pixel := fun i =>
      (if s.eff.bpp16 then Config.rgb565 s.cfg.outBits (byteAt (ma + 2 * i + 1) ++ byteAt (ma + 2 * i))
        else Config.pal s.cfg.outBits (byteAt (ma + i)) (s.paletteAt (byteAt (ma + i)).toNat)) % 2 ^ s.cfg.outBits
    ∃ t rendered : State, exec .tick s = .next t ∧
      let gate : Prop := t.dirty (ma / 4096) ≠ 0 ∨ t.dirty (ma / 4096 + 1) ≠ 0 ∨ r.fullchange ≠ 0
      (∀ p, t.dirty p =
        if (p = ma / 4096 ∨ p = ma / 4096 + 1) ∧ p ≤ size / 4096 then r.changeframecount else s.dirty p) ∧
      rendered = { g with fb := rendered.fb } ∧
      (gate → ∀ (l : Half) (i : Nat),
        rendered.fbRead l i = if l = r.displine ∧ i < s.eff.hDisp then pixel i else s.fbRead l i) ∧
      (¬ gate → rendered.fb = s.fb) ∧
      (gate → t.raster.lastlineDraw = r.displine ∧
        t.raster.firstlineDraw = if r.firstlineDraw = none then r.displine else r.firstlineDraw) ∧
      (¬ gate → t.raster.lastlineDraw = r.lastlineDraw ∧ t.raster.firstlineDraw = r.firstlineDraw) ∧
      t = { s with
        fb := (rendered.cursorDraw r.displine).fb
        changedvram := t.changedvram
        outputs := if r.firstline = none then .waitForBuffer :: s.outputs else s.outputs
        raster := { r with
          linepos := true
          firstline := if r.firstline = none then r.displine else r.firstline
          lastline := if r.lastline.toNat < line then r.displine else r.lastline
          firstlineDraw := t.raster.firstlineDraw
          lastlineDraw := t.raster.lastlineDraw
          ma := BitVec.ofNat 32 ((ma + s.eff.hDisp * if s.eff.bpp16 then 2 else 1) % size)
          displine := BitVec.ofNat 16 (line + step)
          hwcursorOn := BitVec.ofNat 7 (r.hwcursorOn.toNat - step)
          latch := { r.latch with addr := r.latch.addr + 16 + if s.eff.interlace then 16 else 0 } } }

/-- R280, R295 to R300, R373: a blank line. The row counter and the line address of a displayed line advance, the vertical
counter advances modulo 2048, and the four thresholds are tested in the order split, display end, vertical sync, vertical
total, each against the incremented counter, independently of one another (order and widths: D23). -/
def Obligations.BlankLineRunsThresholdsInOrder : Prop :=
  ∀ s : State, s.flags.on = true → s.raster.linepos = true →
    let r : Raster := s.raster
    let size : Nat := 2 ^ s.cfg.vramLog2.toNat
    let rowBytes : Nat := s.eff.rowoffset * s.cfg.rowUnit
    let rowDone : Bool := r.dispon && decide (r.sc.toNat = s.eff.rowcount)
    let back : Word :=
      if rowDone then BitVec.ofNat 32 ((r.maback.toNat + rowBytes * if s.eff.interlace then 2 else 1) % size)
      else r.maback
    let vc : BitVec 11 := r.vc + 1
    let row : State := { s with raster := { r with
      linepos := false
      sc := if rowDone then 0 else if r.dispon then r.sc + 1 else r.sc
      maback := back
      ma := if r.dispon then back else r.ma
      vc := vc } }
    let atVc : Nat → (State → State) → State → State := fun threshold act u => if vc.toNat = threshold then act u else u
    exec .tick s = .next
      (atVc s.eff.vTotal State.atTotal (atVc s.eff.vSyncstart State.atVsync
        (atVc s.eff.dispend State.atDisplayEnd (atVc s.eff.split State.atSplit row))))

/-- R296 to R300: what the four threshold actions do, field by field. The split reloads the display address with 0, or one
row for an interlaced odd field; display end turns the display off and lowers every dirty counter above 0, and the
force-redraw counter, by one, so that the counters reach 0 after as many display ends as the largest says; the sync turns
the display off, hands the frame to the host with the visible size, resets the markers, toggles the field and reloads the
address; the top of frame restarts counters and line, turns the display on and latches the cursor registers (D23, D26,
D29; that `FIRSTLINE_NONE` resets `firstline_draw` too is the model's choice, log 39). -/
def Obligations.ThresholdActions : Prop :=
  ∀ s : State, s.memoriesCanonical →
    let r : Raster := s.raster
    let rowBytes : Nat := s.eff.rowoffset * s.cfg.rowUnit
    let size : Nat := 2 ^ s.cfg.vramLog2.toNat
    let splitAt : Word := if s.eff.interlace && r.oddeven then BitVec.ofNat 32 rowBytes else 0
    let odd : Bool := !r.oddeven
    let top : Word :=
      BitVec.ofNat 32 ((if s.eff.interlace && odd then s.eff.maLatch + rowBytes else s.eff.maLatch) % size)
    let height : Int := if r.firstline = s.cfg.firstlineNone then 0 else (r.lastline.toNat : Int) - r.firstline.toNat + 1
    let ended : State := s.atDisplayEnd
    s.atSplit = { s with raster := { r with maback := splitAt, ma := splitAt, sc := 0 } } ∧
    ended = { s with
      changedvram := ended.changedvram
      raster := { r with dispon := false, fullchange := if r.fullchange = 0 then 0 else r.fullchange - 1 } } ∧
    (∀ p, ended.dirty p = if s.dirty p = 0 then 0 else s.dirty p - 1) ∧
    (∀ n : Nat, (∀ p, (s.dirty p).toNat ≤ n) → ∀ p, (iter n State.atDisplayEnd s).dirty p = 0) ∧
    s.atVsync = { s with
      outputs := .blit s.eff.hDisp height :: s.outputs
      raster := { r with
        dispon := false, oddeven := odd
        firstline := s.cfg.firstlineNone, lastline := 0, firstlineDraw := s.cfg.firstlineNone, lastlineDraw := 0
        changeframecount := if s.eff.interlace then 3 else 2
        maback := top, ma := top } } ∧
    s.atTotal = { s with raster := { r with
      vc := 0, sc := 0, dispon := true, displine := if s.eff.interlace && r.oddeven then 1 else 0, hwcursorOn := 0
      latch := { r.latch with
        x := s.ext.hwcX, y := s.ext.hwcY, xoff := s.ext.hwcXoff, yoff := s.ext.hwcYoff, ena := s.ext.hwcEna } } }

end
end

