-- ==== Sys2Proof/Laws/Sparse.lean ====
section
/-! SUPPORT. Stores of data by address: reading after writing, and the canonical form, which every write keeps. -/

namespace Sys2Proof.Machine

variable {α : Type}

/-! ## The rising order -/

theorem Sparse.risingFrom_mono {lo lo' : Nat} (h : lo' ≤ lo) {m : List (Nat × α)}
    (hm : Sparse.risingFrom lo m = true) : Sparse.risingFrom lo' m = true := by
  cases m with
  | nil => rfl
  | cons c m => simp [Sparse.risingFrom] at hm ⊢; exact ⟨by omega, hm.2⟩

/-- Nothing below the lowest address is listed. -/
theorem Sparse.find_below {lo a : Nat} (h : a < lo) {m : List (Nat × α)} (hm : Sparse.risingFrom lo m = true) :
    Sparse.find a m = none := by
  induction m generalizing lo with
  | nil => rfl
  | cons c m ih =>
    simp [Sparse.risingFrom] at hm
    simp only [Sparse.find]
    rw [if_neg (by omega)]
    exact ih (by omega) hm.2

theorem Sparse.insert_risingFrom {lo a : Nat} {v : α} (h : lo ≤ a) {m : List (Nat × α)}
    (hm : Sparse.risingFrom lo m = true) : Sparse.risingFrom lo (Sparse.insert a v m) = true := by
  induction m generalizing lo with
  | nil => simpa [Sparse.insert, Sparse.risingFrom] using h
  | cons c m ih =>
    simp [Sparse.risingFrom] at hm
    simp only [Sparse.insert]
    split
    · simp [Sparse.risingFrom, h, hm.2]; omega
    · split
      · subst a; simp [Sparse.risingFrom, h, hm.2]
      · simp [Sparse.risingFrom, hm.1]
        exact ih (by omega) hm.2

theorem Sparse.erase_risingFrom {lo a : Nat} {m : List (Nat × α)} (hm : Sparse.risingFrom lo m = true) :
    Sparse.risingFrom lo (Sparse.erase a m) = true := by
  induction m generalizing lo with
  | nil => rfl
  | cons c m ih =>
    simp [Sparse.risingFrom] at hm
    simp only [Sparse.erase]
    split
    · exact Sparse.risingFrom_mono (by omega) hm.2
    · simp [Sparse.risingFrom, hm.1]; exact ih hm.2

theorem Sparse.filterMap_risingFrom {β : Type} {lo : Nat} {f : Nat × α → Option (Nat × β)}
    (hf : ∀ c d, f c = some d → d.1 = c.1) {m : List (Nat × α)} (hm : Sparse.risingFrom lo m = true) :
    Sparse.risingFrom lo (m.filterMap f) = true := by
  induction m generalizing lo with
  | nil => rfl
  | cons c m ih =>
    simp [Sparse.risingFrom] at hm
    rw [List.filterMap_cons]
    split
    · exact Sparse.risingFrom_mono (by omega) (ih hm.2)
    · rename_i d hd
      have h1 := hf c d hd
      simp only [Sparse.risingFrom, Bool.and_eq_true, decide_eq_true_eq]
      exact ⟨by omega, by rw [h1]; exact ih hm.2⟩

/-! ## Reading after writing -/

theorem Sparse.find_insert (a b : Nat) (v : α) (m : List (Nat × α)) :
    Sparse.find b (Sparse.insert a v m) = if b = a then some v else Sparse.find b m := by
  induction m with
  | nil => by_cases h : a = b <;> simp [Sparse.insert, Sparse.find, h, eq_comm]
  | cons c m ih =>
    simp only [Sparse.insert]
    by_cases h : b = a
    · subst h
      split
      · simp [Sparse.find]
      · split
        · simp [Sparse.find]
        · rename_i h2; simp [Sparse.find, Ne.symm h2, ih]
    · have h' : a ≠ b := fun e => h e.symm
      split
      · simp [Sparse.find, h']
      · split
        · rename_i h2; simp [Sparse.find, h', ← h2]
        · simp [Sparse.find, ih, h]

theorem Sparse.find_erase {lo : Nat} (a b : Nat) {m : List (Nat × α)} (hm : Sparse.risingFrom lo m = true) :
    Sparse.find b (Sparse.erase a m) = if b = a then none else Sparse.find b m := by
  induction m generalizing lo with
  | nil => simp [Sparse.erase, Sparse.find]
  | cons c m ih =>
    simp [Sparse.risingFrom] at hm
    simp only [Sparse.erase]
    split
    · rename_i h; subst h
      simp only [Sparse.find]
      split
      · rename_i h; subst h; exact Sparse.find_below (Nat.lt_succ_self _) hm.2
      · rw [if_neg (by omega)]
    · simp only [Sparse.find, ih hm.2]; split <;> split <;> first | rfl | omega

/-- Erasing an address leaves every other address alone, whatever the form. -/
theorem Sparse.find_erase_ne {a b : Nat} (h : b ≠ a) (m : List (Nat × α)) :
    Sparse.find b (Sparse.erase a m) = Sparse.find b m := by
  induction m with
  | nil => rfl
  | cons c m ih =>
    simp only [Sparse.erase]
    split
    · simp only [Sparse.find]; rw [if_neg (by omega)]
    · simp only [Sparse.find, ih]

theorem Sparse.mem_insert {a : Nat} {v : α} {m : List (Nat × α)} {c : Nat × α} (h : c ∈ Sparse.insert a v m) :
    c = (a, v) ∨ c ∈ m := by
  induction m with
  | nil => simpa [Sparse.insert] using h
  | cons d m ih =>
    simp only [Sparse.insert] at h
    split at h
    · simpa using h
    · split at h
      · rcases List.mem_cons.1 h with h | h
        · exact .inl h
        · exact .inr (List.mem_cons_of_mem _ h)
      · rcases List.mem_cons.1 h with h | h
        · exact .inr (by simp [h])
        · rcases ih h with h | h
          · exact .inl h
          · exact .inr (List.mem_cons_of_mem _ h)

theorem Sparse.mem_erase {a : Nat} {m : List (Nat × α)} {c : Nat × α} (h : c ∈ Sparse.erase a m) : c ∈ m := by
  induction m with
  | nil => simp [Sparse.erase] at h
  | cons d m ih =>
    simp only [Sparse.erase] at h
    split at h
    · exact List.mem_cons_of_mem _ h
    · rcases List.mem_cons.1 h with h | h
      · simp [h]
      · exact List.mem_cons_of_mem _ (ih h)

theorem Sparse.find_mem {a : Nat} {v : α} {m : List (Nat × α)} (h : Sparse.find a m = some v) : (a, v) ∈ m := by
  induction m with
  | nil => simp [Sparse.find] at h
  | cons c m ih =>
    simp only [Sparse.find] at h
    split at h
    · rename_i hc; cases h; subst hc; simp
    · exact List.mem_cons_of_mem _ (ih h)

theorem Sparse.find_of_mem {lo a : Nat} {v : α} {m : List (Nat × α)} (hm : Sparse.risingFrom lo m = true)
    (h : (a, v) ∈ m) : Sparse.find a m = some v := by
  induction m generalizing lo with
  | nil => simp at h
  | cons c m ih =>
    simp [Sparse.risingFrom] at hm
    rcases List.mem_cons.1 h with h | h
    · subst h; simp [Sparse.find]
    · simp only [Sparse.find]
      have h1 := ih hm.2 h
      split
      · rename_i hc
        rw [← hc, Sparse.find_below (Nat.lt_succ_self _) hm.2] at h1
        cases h1
      · exact h1

/-! ## Memories -/

theorem Memory.wf_iff (m : List (Nat × α)) : Memory.wf m = true ↔ Sparse.risingFrom 0 m = true := Iff.rfl

theorem Memory.below_iff (m : List (Nat × α)) (n : Nat) : Memory.below m n = true ↔ ∀ c ∈ m, c.1 < n := by
  simp [Memory.below]

/-- What is listed after a write. -/
theorem Memory.find_write (m : List (Nat × α)) (a b : Nat) (v : α) :
    Sparse.find b (Memory.write m a v) = if b = a then some v else Sparse.find b m :=
  Sparse.find_insert a b v m

/-- What a read after a write gives, whatever unlisted addresses hold. -/
theorem Memory.getD_write (m : List (Nat × α)) (a b : Nat) (v d : α) :
    (Sparse.find b (Memory.write m a v)).getD d = if b = a then v else (Sparse.find b m).getD d := by
  rw [Memory.find_write]; split <;> rfl

theorem Memory.write_wf {m : List (Nat × α)} (h : Memory.wf m = true) (a : Nat) (v : α) :
    Memory.wf (Memory.write m a v) = true :=
  Sparse.insert_risingFrom (Nat.zero_le _) h

theorem Memory.write_below {m : List (Nat × α)} {n : Nat} (h : Memory.below m n = true) {a : Nat} (ha : a < n)
    (v : α) : Memory.below (Memory.write m a v) n = true := by
  rw [Memory.below_iff] at h ⊢
  intro c hc
  rcases Sparse.mem_insert hc with rfl | hc
  · exact ha
  · exact h c hc

/-! ## Counters -/

theorem Counters.wf_iff (m : List Host.Cell) :
    Counters.wf m = true ↔ Sparse.risingFrom 0 m = true ∧ ∀ c ∈ m, c.2 ≠ Counters.unlisted := by
  simp [Counters.wf]

@[simp] theorem Counters.read_nil (a : Nat) : Counters.read [] a = 0 := rfl

/-- A write leaves every other counter alone. -/
theorem Counters.read_write_other {a b : Nat} (h : b ≠ a) (m : List Host.Cell) (v : Byte) :
    Counters.read (Counters.write m a v) b = Counters.read m b := by
  unfold Counters.read Counters.write
  split
  · rw [Sparse.find_erase_ne h]
  · rw [Sparse.find_insert, if_neg h]

/-- A read of the counter written gives the value written; the form must be canonical only because a write of 0 unlists
the counter. -/
theorem Counters.read_write_same {m : List Host.Cell} (h : Counters.wf m = true) (a : Nat) (v : Byte) :
    Counters.read (Counters.write m a v) a = v := by
  have hr := ((Counters.wf_iff m).1 h).1
  unfold Counters.read Counters.write
  split
  · rename_i hv; rw [Sparse.find_erase a a hr]; simp [hv]
  · rw [Sparse.find_insert]; simp

/-- What a read after a write gives, in canonical form. -/
theorem Counters.read_write {m : List Host.Cell} (h : Counters.wf m = true) (a b : Nat) (v : Byte) :
    Counters.read (Counters.write m a v) b = if b = a then v else Counters.read m b := by
  split
  · rename_i hb; subst hb; exact Counters.read_write_same h _ v
  · rename_i hb; exact Counters.read_write_other hb m v

/-- A write that does not store 0 reads back in any list. -/
theorem Counters.read_write_nonzero (m : List Host.Cell) (a : Nat) {v : Byte} (hv : v ≠ Counters.unlisted) :
    Counters.read (Counters.write m a v) a = v := by
  unfold Counters.read Counters.write
  rw [if_neg hv, Sparse.find_insert]; simp

theorem Counters.write_wf {m : List Host.Cell} (h : Counters.wf m = true) (a : Nat) (v : Byte) :
    Counters.wf (Counters.write m a v) = true := by
  rw [Counters.wf_iff] at h ⊢
  unfold Counters.write
  split
  · exact ⟨Sparse.erase_risingFrom h.1, fun c hc => h.2 c (Sparse.mem_erase hc)⟩
  · rename_i hv
    refine ⟨Sparse.insert_risingFrom (Nat.zero_le _) h.1, fun c hc => ?_⟩
    rcases Sparse.mem_insert hc with rfl | hc
    · exact hv
    · exact h.2 c hc

theorem Counters.write_below {m : List Host.Cell} {n : Nat} (h : Memory.below m n = true) {a : Nat} (ha : a < n)
    (v : Byte) : Memory.below (Counters.write m a v) n = true := by
  rw [Memory.below_iff] at h ⊢
  intro c hc
  unfold Counters.write at hc
  split at hc
  · exact h c (Sparse.mem_erase hc)
  · rcases Sparse.mem_insert hc with rfl | hc
    · exact ha
    · exact h c hc

end Sys2Proof.Machine
end

