-- ==== Sys2Proof/Laws/State.lean ====
section
/-! SUPPORT. One lemma per field per update of the state, so that no later proof unfolds a record update. -/

namespace Sys2Proof.Machine

/-! ## `State.emit` -/

@[simp] theorem State.emit_attached (s : State) (o : Output) : (s.emit o).attached = s.attached := rfl
@[simp] theorem State.emit_cfg (s : State) (o : Output) : (s.emit o).cfg = s.cfg := rfl
@[simp] theorem State.emit_generation (s : State) (o : Output) : (s.emit o).generation = s.generation := rfl
@[simp] theorem State.emit_vram (s : State) (o : Output) : (s.emit o).vram = s.vram := rfl
@[simp] theorem State.emit_changedvram (s : State) (o : Output) : (s.emit o).changedvram = s.changedvram := rfl
@[simp] theorem State.emit_spriteData (s : State) (o : Output) : (s.emit o).spriteData = s.spriteData := rfl
@[simp] theorem State.emit_palette (s : State) (o : Output) : (s.emit o).palette = s.palette := rfl
@[simp] theorem State.emit_acc (s : State) (o : Output) : (s.emit o).acc = s.acc := rfl
@[simp] theorem State.emit_live (s : State) (o : Output) : (s.emit o).live = s.live := rfl
@[simp] theorem State.emit_ext (s : State) (o : Output) : (s.emit o).ext = s.ext := rfl
@[simp] theorem State.emit_flags (s : State) (o : Output) : (s.emit o).flags = s.flags := rfl
@[simp] theorem State.emit_raster (s : State) (o : Output) : (s.emit o).raster = s.raster := rfl
@[simp] theorem State.emit_eff (s : State) (o : Output) : (s.emit o).eff = s.eff := rfl
@[simp] theorem State.emit_mapping (s : State) (o : Output) : (s.emit o).mapping = s.mapping := rfl
@[simp] theorem State.emit_fb (s : State) (o : Output) : (s.emit o).fb = s.fb := rfl
@[simp] theorem State.emit_legacyCrtc (s : State) (o : Output) : (s.emit o).legacyCrtc = s.legacyCrtc := rfl
@[simp] theorem State.emit_sysReads (s : State) (o : Output) : (s.emit o).sysReads = s.sysReads := rfl
@[simp] theorem State.emit_outputs (s : State) (o : Output) : (s.emit o).outputs = o :: s.outputs := rfl
@[simp] theorem State.emit_answer (s : State) (o : Output) : (s.emit o).answer = s.answer := rfl
@[simp] theorem State.emit_inbox (s : State) (o : Output) : (s.emit o).inbox = s.inbox := rfl

/-! ## `State.respond` -/

@[simp] theorem State.respond_attached (s : State) (a : Answer) : (s.respond a).attached = s.attached := rfl
@[simp] theorem State.respond_cfg (s : State) (a : Answer) : (s.respond a).cfg = s.cfg := rfl
@[simp] theorem State.respond_generation (s : State) (a : Answer) : (s.respond a).generation = s.generation := rfl
@[simp] theorem State.respond_vram (s : State) (a : Answer) : (s.respond a).vram = s.vram := rfl
@[simp] theorem State.respond_changedvram (s : State) (a : Answer) : (s.respond a).changedvram = s.changedvram := rfl
@[simp] theorem State.respond_spriteData (s : State) (a : Answer) : (s.respond a).spriteData = s.spriteData := rfl
@[simp] theorem State.respond_palette (s : State) (a : Answer) : (s.respond a).palette = s.palette := rfl
@[simp] theorem State.respond_acc (s : State) (a : Answer) : (s.respond a).acc = s.acc := rfl
@[simp] theorem State.respond_live (s : State) (a : Answer) : (s.respond a).live = s.live := rfl
@[simp] theorem State.respond_ext (s : State) (a : Answer) : (s.respond a).ext = s.ext := rfl
@[simp] theorem State.respond_flags (s : State) (a : Answer) : (s.respond a).flags = s.flags := rfl
@[simp] theorem State.respond_raster (s : State) (a : Answer) : (s.respond a).raster = s.raster := rfl
@[simp] theorem State.respond_eff (s : State) (a : Answer) : (s.respond a).eff = s.eff := rfl
@[simp] theorem State.respond_mapping (s : State) (a : Answer) : (s.respond a).mapping = s.mapping := rfl
@[simp] theorem State.respond_fb (s : State) (a : Answer) : (s.respond a).fb = s.fb := rfl
@[simp] theorem State.respond_legacyCrtc (s : State) (a : Answer) : (s.respond a).legacyCrtc = s.legacyCrtc := rfl
@[simp] theorem State.respond_sysReads (s : State) (a : Answer) : (s.respond a).sysReads = s.sysReads := rfl
@[simp] theorem State.respond_outputs (s : State) (a : Answer) : (s.respond a).outputs = s.outputs := rfl
@[simp] theorem State.respond_answer (s : State) (a : Answer) : (s.respond a).answer = a := rfl
@[simp] theorem State.respond_inbox (s : State) (a : Answer) : (s.respond a).inbox = s.inbox := rfl

/-! ## `State.withLive` -/

@[simp] theorem State.withLive_attached (s : State) (l : Live) : (s.withLive l).attached = s.attached := rfl
@[simp] theorem State.withLive_cfg (s : State) (l : Live) : (s.withLive l).cfg = s.cfg := rfl
@[simp] theorem State.withLive_generation (s : State) (l : Live) : (s.withLive l).generation = s.generation := rfl
@[simp] theorem State.withLive_vram (s : State) (l : Live) : (s.withLive l).vram = s.vram := rfl
@[simp] theorem State.withLive_changedvram (s : State) (l : Live) : (s.withLive l).changedvram = s.changedvram := rfl
@[simp] theorem State.withLive_spriteData (s : State) (l : Live) : (s.withLive l).spriteData = s.spriteData := rfl
@[simp] theorem State.withLive_palette (s : State) (l : Live) : (s.withLive l).palette = s.palette := rfl
@[simp] theorem State.withLive_acc (s : State) (l : Live) : (s.withLive l).acc = s.acc := rfl
@[simp] theorem State.withLive_live (s : State) (l : Live) : (s.withLive l).live = l := rfl
@[simp] theorem State.withLive_ext (s : State) (l : Live) : (s.withLive l).ext = s.ext := rfl
@[simp] theorem State.withLive_flags (s : State) (l : Live) : (s.withLive l).flags = s.flags := rfl
@[simp] theorem State.withLive_raster (s : State) (l : Live) : (s.withLive l).raster = s.raster := rfl
@[simp] theorem State.withLive_eff (s : State) (l : Live) : (s.withLive l).eff = s.eff := rfl
@[simp] theorem State.withLive_mapping (s : State) (l : Live) : (s.withLive l).mapping = s.mapping := rfl
@[simp] theorem State.withLive_fb (s : State) (l : Live) : (s.withLive l).fb = s.fb := rfl
@[simp] theorem State.withLive_legacyCrtc (s : State) (l : Live) : (s.withLive l).legacyCrtc = s.legacyCrtc := rfl
@[simp] theorem State.withLive_sysReads (s : State) (l : Live) : (s.withLive l).sysReads = s.sysReads := rfl
@[simp] theorem State.withLive_outputs (s : State) (l : Live) : (s.withLive l).outputs = s.outputs := rfl
@[simp] theorem State.withLive_answer (s : State) (l : Live) : (s.withLive l).answer = s.answer := rfl
@[simp] theorem State.withLive_inbox (s : State) (l : Live) : (s.withLive l).inbox = s.inbox := rfl

/-! ## `State.withRaster` -/

@[simp] theorem State.withRaster_attached (s : State) (r : Raster) : (s.withRaster r).attached = s.attached := rfl
@[simp] theorem State.withRaster_cfg (s : State) (r : Raster) : (s.withRaster r).cfg = s.cfg := rfl
@[simp] theorem State.withRaster_generation (s : State) (r : Raster) : (s.withRaster r).generation = s.generation := rfl
@[simp] theorem State.withRaster_vram (s : State) (r : Raster) : (s.withRaster r).vram = s.vram := rfl
@[simp] theorem State.withRaster_changedvram (s : State) (r : Raster) :
    (s.withRaster r).changedvram = s.changedvram := rfl
@[simp] theorem State.withRaster_spriteData (s : State) (r : Raster) : (s.withRaster r).spriteData = s.spriteData := rfl
@[simp] theorem State.withRaster_palette (s : State) (r : Raster) : (s.withRaster r).palette = s.palette := rfl
@[simp] theorem State.withRaster_acc (s : State) (r : Raster) : (s.withRaster r).acc = s.acc := rfl
@[simp] theorem State.withRaster_live (s : State) (r : Raster) : (s.withRaster r).live = s.live := rfl
@[simp] theorem State.withRaster_ext (s : State) (r : Raster) : (s.withRaster r).ext = s.ext := rfl
@[simp] theorem State.withRaster_flags (s : State) (r : Raster) : (s.withRaster r).flags = s.flags := rfl
@[simp] theorem State.withRaster_raster (s : State) (r : Raster) : (s.withRaster r).raster = r := rfl
@[simp] theorem State.withRaster_eff (s : State) (r : Raster) : (s.withRaster r).eff = s.eff := rfl
@[simp] theorem State.withRaster_mapping (s : State) (r : Raster) : (s.withRaster r).mapping = s.mapping := rfl
@[simp] theorem State.withRaster_fb (s : State) (r : Raster) : (s.withRaster r).fb = s.fb := rfl
@[simp] theorem State.withRaster_legacyCrtc (s : State) (r : Raster) : (s.withRaster r).legacyCrtc = s.legacyCrtc := rfl
@[simp] theorem State.withRaster_sysReads (s : State) (r : Raster) : (s.withRaster r).sysReads = s.sysReads := rfl
@[simp] theorem State.withRaster_outputs (s : State) (r : Raster) : (s.withRaster r).outputs = s.outputs := rfl
@[simp] theorem State.withRaster_answer (s : State) (r : Raster) : (s.withRaster r).answer = s.answer := rfl
@[simp] theorem State.withRaster_inbox (s : State) (r : Raster) : (s.withRaster r).inbox = s.inbox := rfl

/-! ## `State.withoutHead` -/

@[simp] theorem State.withoutHead_attached (s : State) : (s.withoutHead).attached = s.attached := rfl
@[simp] theorem State.withoutHead_cfg (s : State) : (s.withoutHead).cfg = s.cfg := rfl
@[simp] theorem State.withoutHead_generation (s : State) : (s.withoutHead).generation = s.generation := rfl
@[simp] theorem State.withoutHead_vram (s : State) : (s.withoutHead).vram = s.vram := rfl
@[simp] theorem State.withoutHead_changedvram (s : State) : (s.withoutHead).changedvram = s.changedvram := rfl
@[simp] theorem State.withoutHead_spriteData (s : State) : (s.withoutHead).spriteData = s.spriteData := rfl
@[simp] theorem State.withoutHead_palette (s : State) : (s.withoutHead).palette = s.palette := rfl
@[simp] theorem State.withoutHead_acc (s : State) : (s.withoutHead).acc = s.acc := rfl
@[simp] theorem State.withoutHead_live (s : State) : (s.withoutHead).live = s.live := rfl
@[simp] theorem State.withoutHead_ext (s : State) : (s.withoutHead).ext = s.ext := rfl
@[simp] theorem State.withoutHead_flags (s : State) : (s.withoutHead).flags = s.flags := rfl
@[simp] theorem State.withoutHead_raster (s : State) : (s.withoutHead).raster = s.raster := rfl
@[simp] theorem State.withoutHead_eff (s : State) : (s.withoutHead).eff = s.eff := rfl
@[simp] theorem State.withoutHead_mapping (s : State) : (s.withoutHead).mapping = s.mapping := rfl
@[simp] theorem State.withoutHead_fb (s : State) : (s.withoutHead).fb = s.fb := rfl
@[simp] theorem State.withoutHead_legacyCrtc (s : State) : (s.withoutHead).legacyCrtc = s.legacyCrtc := rfl
@[simp] theorem State.withoutHead_sysReads (s : State) : (s.withoutHead).sysReads = s.sysReads := rfl
@[simp] theorem State.withoutHead_outputs (s : State) : (s.withoutHead).outputs = s.outputs := rfl
@[simp] theorem State.withoutHead_answer (s : State) : (s.withoutHead).answer = s.answer := rfl
@[simp] theorem State.withoutHead_inbox (s : State) : (s.withoutHead).inbox = s.inbox.tail := rfl

/-! ## `State.setCommand` -/

@[simp] theorem State.setCommand_attached (s : State) (w : Word) : (s.setCommand w).attached = s.attached := rfl
@[simp] theorem State.setCommand_cfg (s : State) (w : Word) : (s.setCommand w).cfg = s.cfg := rfl
@[simp] theorem State.setCommand_generation (s : State) (w : Word) : (s.setCommand w).generation = s.generation := rfl
@[simp] theorem State.setCommand_vram (s : State) (w : Word) : (s.setCommand w).vram = s.vram := rfl
@[simp] theorem State.setCommand_changedvram (s : State) (w : Word) :
    (s.setCommand w).changedvram = s.changedvram := rfl
@[simp] theorem State.setCommand_spriteData (s : State) (w : Word) : (s.setCommand w).spriteData = s.spriteData := rfl
@[simp] theorem State.setCommand_palette (s : State) (w : Word) : (s.setCommand w).palette = s.palette := rfl
@[simp] theorem State.setCommand_acc (s : State) (w : Word) : (s.setCommand w).acc = { s.acc with command := w } := rfl
@[simp] theorem State.setCommand_live (s : State) (w : Word) : (s.setCommand w).live = s.live := rfl
@[simp] theorem State.setCommand_ext (s : State) (w : Word) : (s.setCommand w).ext = s.ext := rfl
@[simp] theorem State.setCommand_flags (s : State) (w : Word) : (s.setCommand w).flags = s.flags := rfl
@[simp] theorem State.setCommand_raster (s : State) (w : Word) : (s.setCommand w).raster = s.raster := rfl
@[simp] theorem State.setCommand_eff (s : State) (w : Word) : (s.setCommand w).eff = s.eff := rfl
@[simp] theorem State.setCommand_mapping (s : State) (w : Word) : (s.setCommand w).mapping = s.mapping := rfl
@[simp] theorem State.setCommand_fb (s : State) (w : Word) : (s.setCommand w).fb = s.fb := rfl
@[simp] theorem State.setCommand_legacyCrtc (s : State) (w : Word) : (s.setCommand w).legacyCrtc = s.legacyCrtc := rfl
@[simp] theorem State.setCommand_sysReads (s : State) (w : Word) : (s.setCommand w).sysReads = s.sysReads := rfl
@[simp] theorem State.setCommand_outputs (s : State) (w : Word) : (s.setCommand w).outputs = s.outputs := rfl
@[simp] theorem State.setCommand_answer (s : State) (w : Word) : (s.setCommand w).answer = s.answer := rfl
@[simp] theorem State.setCommand_inbox (s : State) (w : Word) : (s.setCommand w).inbox = s.inbox := rfl

/-! ## `State.setShortStroke` -/

@[simp] theorem State.setShortStroke_attached (s : State) (w : Word) : (s.setShortStroke w).attached = s.attached := rfl
@[simp] theorem State.setShortStroke_cfg (s : State) (w : Word) : (s.setShortStroke w).cfg = s.cfg := rfl
@[simp] theorem State.setShortStroke_generation (s : State) (w : Word) : (s.setShortStroke w).generation =
    s.generation := rfl
@[simp] theorem State.setShortStroke_vram (s : State) (w : Word) : (s.setShortStroke w).vram = s.vram := rfl
@[simp] theorem State.setShortStroke_changedvram (s : State) (w : Word) :
    (s.setShortStroke w).changedvram = s.changedvram := rfl
@[simp] theorem State.setShortStroke_spriteData (s : State) (w : Word) :
    (s.setShortStroke w).spriteData = s.spriteData := rfl
@[simp] theorem State.setShortStroke_palette (s : State) (w : Word) : (s.setShortStroke w).palette = s.palette := rfl
@[simp] theorem State.setShortStroke_acc (s : State) (w : Word) :
    (s.setShortStroke w).acc = { s.acc with shortStroke := w } := rfl
@[simp] theorem State.setShortStroke_live (s : State) (w : Word) : (s.setShortStroke w).live = s.live := rfl
@[simp] theorem State.setShortStroke_ext (s : State) (w : Word) : (s.setShortStroke w).ext = s.ext := rfl
@[simp] theorem State.setShortStroke_flags (s : State) (w : Word) : (s.setShortStroke w).flags = s.flags := rfl
@[simp] theorem State.setShortStroke_raster (s : State) (w : Word) : (s.setShortStroke w).raster = s.raster := rfl
@[simp] theorem State.setShortStroke_eff (s : State) (w : Word) : (s.setShortStroke w).eff = s.eff := rfl
@[simp] theorem State.setShortStroke_mapping (s : State) (w : Word) : (s.setShortStroke w).mapping = s.mapping := rfl
@[simp] theorem State.setShortStroke_fb (s : State) (w : Word) : (s.setShortStroke w).fb = s.fb := rfl
@[simp] theorem State.setShortStroke_legacyCrtc (s : State) (w : Word) :
    (s.setShortStroke w).legacyCrtc = s.legacyCrtc := rfl
@[simp] theorem State.setShortStroke_sysReads (s : State) (w : Word) : (s.setShortStroke w).sysReads = s.sysReads := rfl
@[simp] theorem State.setShortStroke_outputs (s : State) (w : Word) : (s.setShortStroke w).outputs = s.outputs := rfl
@[simp] theorem State.setShortStroke_answer (s : State) (w : Word) : (s.setShortStroke w).answer = s.answer := rfl
@[simp] theorem State.setShortStroke_inbox (s : State) (w : Word) : (s.setShortStroke w).inbox = s.inbox := rfl

/-! ## `State.writeBack` -/

@[simp] theorem State.writeBack_attached (s : State) : (s.writeBack).attached = s.attached := rfl
@[simp] theorem State.writeBack_cfg (s : State) : (s.writeBack).cfg = s.cfg := rfl
@[simp] theorem State.writeBack_generation (s : State) : (s.writeBack).generation = s.generation := rfl
@[simp] theorem State.writeBack_vram (s : State) : (s.writeBack).vram = s.vram := rfl
@[simp] theorem State.writeBack_changedvram (s : State) : (s.writeBack).changedvram = s.changedvram := rfl
@[simp] theorem State.writeBack_spriteData (s : State) : (s.writeBack).spriteData = s.spriteData := rfl
@[simp] theorem State.writeBack_palette (s : State) : (s.writeBack).palette = s.palette := rfl
@[simp] theorem State.writeBack_acc (s : State) :
    (s.writeBack).acc = { s.acc with dstMapX := trunc16 s.live.dx, dstMapY := trunc16 s.live.dy } := rfl
@[simp] theorem State.writeBack_live (s : State) : (s.writeBack).live = s.live := rfl
@[simp] theorem State.writeBack_ext (s : State) : (s.writeBack).ext = s.ext := rfl
@[simp] theorem State.writeBack_flags (s : State) : (s.writeBack).flags = s.flags := rfl
@[simp] theorem State.writeBack_raster (s : State) : (s.writeBack).raster = s.raster := rfl
@[simp] theorem State.writeBack_eff (s : State) : (s.writeBack).eff = s.eff := rfl
@[simp] theorem State.writeBack_mapping (s : State) : (s.writeBack).mapping = s.mapping := rfl
@[simp] theorem State.writeBack_fb (s : State) : (s.writeBack).fb = s.fb := rfl
@[simp] theorem State.writeBack_legacyCrtc (s : State) : (s.writeBack).legacyCrtc = s.legacyCrtc := rfl
@[simp] theorem State.writeBack_sysReads (s : State) : (s.writeBack).sysReads = s.sysReads := rfl
@[simp] theorem State.writeBack_outputs (s : State) : (s.writeBack).outputs = s.outputs := rfl
@[simp] theorem State.writeBack_answer (s : State) : (s.writeBack).answer = s.answer := rfl
@[simp] theorem State.writeBack_inbox (s : State) : (s.writeBack).inbox = s.inbox := rfl

/-! ## `State.fbWrite` -/

@[simp] theorem State.fbWrite_attached (s : State) (line : Half) (x : Nat) (v : Nat) :
    (s.fbWrite line x v).attached = s.attached := rfl
@[simp] theorem State.fbWrite_cfg (s : State) (line : Half) (x : Nat) (v : Nat) :
    (s.fbWrite line x v).cfg = s.cfg := rfl
@[simp] theorem State.fbWrite_generation (s : State) (line : Half) (x : Nat) (v : Nat) :
    (s.fbWrite line x v).generation = s.generation := rfl
@[simp] theorem State.fbWrite_vram (s : State) (line : Half) (x : Nat) (v : Nat) :
    (s.fbWrite line x v).vram = s.vram := rfl
@[simp] theorem State.fbWrite_changedvram (s : State) (line : Half) (x : Nat) (v : Nat) :
    (s.fbWrite line x v).changedvram = s.changedvram := rfl
@[simp] theorem State.fbWrite_spriteData (s : State) (line : Half) (x : Nat) (v : Nat) :
    (s.fbWrite line x v).spriteData = s.spriteData := rfl
@[simp] theorem State.fbWrite_palette (s : State) (line : Half) (x : Nat) (v : Nat) :
    (s.fbWrite line x v).palette = s.palette := rfl
@[simp] theorem State.fbWrite_acc (s : State) (line : Half) (x : Nat) (v : Nat) :
    (s.fbWrite line x v).acc = s.acc := rfl
@[simp] theorem State.fbWrite_live (s : State) (line : Half) (x : Nat) (v : Nat) :
    (s.fbWrite line x v).live = s.live := rfl
@[simp] theorem State.fbWrite_ext (s : State) (line : Half) (x : Nat) (v : Nat) :
    (s.fbWrite line x v).ext = s.ext := rfl
@[simp] theorem State.fbWrite_flags (s : State) (line : Half) (x : Nat) (v : Nat) :
    (s.fbWrite line x v).flags = s.flags := rfl
@[simp] theorem State.fbWrite_raster (s : State) (line : Half) (x : Nat) (v : Nat) :
    (s.fbWrite line x v).raster = s.raster := rfl
@[simp] theorem State.fbWrite_eff (s : State) (line : Half) (x : Nat) (v : Nat) :
    (s.fbWrite line x v).eff = s.eff := rfl
@[simp] theorem State.fbWrite_mapping (s : State) (line : Half) (x : Nat) (v : Nat) :
    (s.fbWrite line x v).mapping = s.mapping := rfl
@[simp] theorem State.fbWrite_fb (s : State) (line : Half) (x : Nat) (v : Nat) :
    (s.fbWrite line x v).fb = Memory.write s.fb (fbKey line x) (HostConfig.outPixel s.cfg v) := rfl
@[simp] theorem State.fbWrite_legacyCrtc (s : State) (line : Half) (x : Nat) (v : Nat) :
    (s.fbWrite line x v).legacyCrtc = s.legacyCrtc := rfl
@[simp] theorem State.fbWrite_sysReads (s : State) (line : Half) (x : Nat) (v : Nat) :
    (s.fbWrite line x v).sysReads = s.sysReads := rfl
@[simp] theorem State.fbWrite_outputs (s : State) (line : Half) (x : Nat) (v : Nat) :
    (s.fbWrite line x v).outputs = s.outputs := rfl
@[simp] theorem State.fbWrite_answer (s : State) (line : Half) (x : Nat) (v : Nat) :
    (s.fbWrite line x v).answer = s.answer := rfl
@[simp] theorem State.fbWrite_inbox (s : State) (line : Half) (x : Nat) (v : Nat) :
    (s.fbWrite line x v).inbox = s.inbox := rfl

/-! ## `State.recalc` -/

@[simp] theorem State.recalc_attached (s : State) : (s.recalc).attached = s.attached := rfl
@[simp] theorem State.recalc_cfg (s : State) : (s.recalc).cfg = s.cfg := rfl
@[simp] theorem State.recalc_generation (s : State) : (s.recalc).generation = s.generation := rfl
@[simp] theorem State.recalc_vram (s : State) : (s.recalc).vram = s.vram := rfl
@[simp] theorem State.recalc_changedvram (s : State) : (s.recalc).changedvram = s.changedvram := rfl
@[simp] theorem State.recalc_spriteData (s : State) : (s.recalc).spriteData = s.spriteData := rfl
@[simp] theorem State.recalc_palette (s : State) : (s.recalc).palette = s.palette := rfl
@[simp] theorem State.recalc_acc (s : State) : (s.recalc).acc = s.acc := rfl
@[simp] theorem State.recalc_live (s : State) : (s.recalc).live = s.live := rfl
@[simp] theorem State.recalc_ext (s : State) : (s.recalc).ext = s.ext := rfl
@[simp] theorem State.recalc_flags (s : State) : (s.recalc).flags = s.flags := rfl
@[simp] theorem State.recalc_raster (s : State) :
    (s.recalc).raster = { s.raster with fullchange := s.raster.changeframecount } := rfl
@[simp] theorem State.recalc_eff (s : State) : (s.recalc).eff = s.recalcValue := rfl
@[simp] theorem State.recalc_mapping (s : State) : (s.recalc).mapping = s.mapping := rfl
@[simp] theorem State.recalc_fb (s : State) : (s.recalc).fb = s.fb := rfl
@[simp] theorem State.recalc_legacyCrtc (s : State) : (s.recalc).legacyCrtc = s.legacyCrtc := rfl
@[simp] theorem State.recalc_sysReads (s : State) : (s.recalc).sysReads = s.sysReads := rfl
@[simp] theorem State.recalc_outputs (s : State) : (s.recalc).outputs = s.outputs := rfl
@[simp] theorem State.recalc_answer (s : State) : (s.recalc).answer = s.answer := rfl
@[simp] theorem State.recalc_inbox (s : State) : (s.recalc).inbox = s.inbox := rfl

/-! ## `State.respondByte` -/

@[simp] theorem State.respondByte_attached (s : State) (b : Byte) : (s.respondByte b).attached = s.attached := rfl
@[simp] theorem State.respondByte_cfg (s : State) (b : Byte) : (s.respondByte b).cfg = s.cfg := rfl
@[simp] theorem State.respondByte_generation (s : State) (b : Byte) : (s.respondByte b).generation = s.generation := rfl
@[simp] theorem State.respondByte_vram (s : State) (b : Byte) : (s.respondByte b).vram = s.vram := rfl
@[simp] theorem State.respondByte_changedvram (s : State) (b : Byte) :
    (s.respondByte b).changedvram = s.changedvram := rfl
@[simp] theorem State.respondByte_spriteData (s : State) (b : Byte) : (s.respondByte b).spriteData = s.spriteData := rfl
@[simp] theorem State.respondByte_palette (s : State) (b : Byte) : (s.respondByte b).palette = s.palette := rfl
@[simp] theorem State.respondByte_acc (s : State) (b : Byte) : (s.respondByte b).acc = s.acc := rfl
@[simp] theorem State.respondByte_live (s : State) (b : Byte) : (s.respondByte b).live = s.live := rfl
@[simp] theorem State.respondByte_ext (s : State) (b : Byte) : (s.respondByte b).ext = s.ext := rfl
@[simp] theorem State.respondByte_flags (s : State) (b : Byte) : (s.respondByte b).flags = s.flags := rfl
@[simp] theorem State.respondByte_raster (s : State) (b : Byte) : (s.respondByte b).raster = s.raster := rfl
@[simp] theorem State.respondByte_eff (s : State) (b : Byte) : (s.respondByte b).eff = s.eff := rfl
@[simp] theorem State.respondByte_mapping (s : State) (b : Byte) : (s.respondByte b).mapping = s.mapping := rfl
@[simp] theorem State.respondByte_fb (s : State) (b : Byte) : (s.respondByte b).fb = s.fb := rfl
@[simp] theorem State.respondByte_legacyCrtc (s : State) (b : Byte) : (s.respondByte b).legacyCrtc = s.legacyCrtc := rfl
@[simp] theorem State.respondByte_sysReads (s : State) (b : Byte) : (s.respondByte b).sysReads = s.sysReads := rfl
@[simp] theorem State.respondByte_outputs (s : State) (b : Byte) : (s.respondByte b).outputs = s.outputs := rfl
@[simp] theorem State.respondByte_answer (s : State) (b : Byte) : (s.respondByte b).answer = .data [some b] := rfl
@[simp] theorem State.respondByte_inbox (s : State) (b : Byte) : (s.respondByte b).inbox = s.inbox := rfl

/-! ## `State.keepingHost` -/

@[simp] theorem State.keepingHost_attached (s t : State) : (s.keepingHost t).attached = t.attached := rfl
@[simp] theorem State.keepingHost_cfg (s t : State) : (s.keepingHost t).cfg = t.cfg := rfl
@[simp] theorem State.keepingHost_generation (s t : State) : (s.keepingHost t).generation = s.generation := rfl
@[simp] theorem State.keepingHost_vram (s t : State) : (s.keepingHost t).vram = t.vram := rfl
@[simp] theorem State.keepingHost_changedvram (s t : State) : (s.keepingHost t).changedvram = t.changedvram := rfl
@[simp] theorem State.keepingHost_spriteData (s t : State) : (s.keepingHost t).spriteData = t.spriteData := rfl
@[simp] theorem State.keepingHost_palette (s t : State) : (s.keepingHost t).palette = t.palette := rfl
@[simp] theorem State.keepingHost_acc (s t : State) : (s.keepingHost t).acc = t.acc := rfl
@[simp] theorem State.keepingHost_live (s t : State) : (s.keepingHost t).live = t.live := rfl
@[simp] theorem State.keepingHost_ext (s t : State) : (s.keepingHost t).ext = t.ext := rfl
@[simp] theorem State.keepingHost_flags (s t : State) : (s.keepingHost t).flags = t.flags := rfl
@[simp] theorem State.keepingHost_raster (s t : State) : (s.keepingHost t).raster = t.raster := rfl
@[simp] theorem State.keepingHost_eff (s t : State) : (s.keepingHost t).eff = t.eff := rfl
@[simp] theorem State.keepingHost_mapping (s t : State) : (s.keepingHost t).mapping = t.mapping := rfl
@[simp] theorem State.keepingHost_fb (s t : State) : (s.keepingHost t).fb = s.fb := rfl
@[simp] theorem State.keepingHost_legacyCrtc (s t : State) : (s.keepingHost t).legacyCrtc = s.legacyCrtc := rfl
@[simp] theorem State.keepingHost_sysReads (s t : State) : (s.keepingHost t).sysReads = s.sysReads := rfl
@[simp] theorem State.keepingHost_outputs (s t : State) : (s.keepingHost t).outputs = s.outputs := rfl
@[simp] theorem State.keepingHost_answer (s t : State) : (s.keepingHost t).answer = s.answer := rfl
@[simp] theorem State.keepingHost_inbox (s t : State) : (s.keepingHost t).inbox = s.inbox := rfl

/-! ## The state after reset -/

/-- The stores of data are canonical after reset: nothing is listed. -/
theorem State.reset_stores_wf :
    Memory.wf State.reset.vram = true ∧ Counters.wf State.reset.changedvram = true ∧
    Memory.wf State.reset.spriteData = true ∧ Memory.wf State.reset.palette = true ∧
    Memory.wf State.reset.fb = true ∧ Memory.wf State.reset.legacyCrtc = true := ⟨rfl, rfl, rfl, rfl, rfl, rfl⟩

end Sys2Proof.Machine
end

