-- ==== Sys2Proof/Laws/Drawing.lean ====
section
/-! SUPPORT. What drawing can do: each shared operation of a primitive, from a byte write to a whole primitive, changes
only what `State.sameButDrawing` lets change, stamps what it writes, and keeps the stores of data canonical. -/

namespace Sys2Proof.Machine

/-- What drawing does, in a form that composes: the frame and the calls in every state, the stamps in canonical ones. -/
def State.drawsLaw (s t : State) : Prop :=
  s.sameButDrawing t ∧ s.onlySysWrites t ∧
    (s.memoriesCanonical → t.memoriesCanonical ∧ s.stampedFrom t ∧ s.pagesFrom t)

theorem State.drawsLaw_refl (s : State) : s.drawsLaw s :=
  ⟨rfl, ⟨[], rfl, by simp⟩, fun h => ⟨h, fun _ hne => absurd rfl hne, fun _ => .inl rfl⟩⟩

/-! ## Fields the frame fixes -/

section
variable {s t : State} (h : s.sameButDrawing t)
include h

theorem State.sameButDrawing_attached : t.attached = s.attached := by rw [h]
theorem State.sameButDrawing_cfg : t.cfg = s.cfg := by rw [h]
theorem State.sameButDrawing_generation : t.generation = s.generation := by rw [h]
theorem State.sameButDrawing_spriteData : t.spriteData = s.spriteData := by rw [h]
theorem State.sameButDrawing_palette : t.palette = s.palette := by rw [h]
theorem State.sameButDrawing_ext : t.ext = s.ext := by rw [h]
theorem State.sameButDrawing_flags : t.flags = s.flags := by rw [h]
theorem State.sameButDrawing_raster : t.raster = s.raster := by rw [h]
theorem State.sameButDrawing_eff : t.eff = s.eff := by rw [h]
theorem State.sameButDrawing_mapping : t.mapping = s.mapping := by rw [h]
theorem State.sameButDrawing_fb : t.fb = s.fb := by rw [h]
theorem State.sameButDrawing_legacyCrtc : t.legacyCrtc = s.legacyCrtc := by rw [h]
theorem State.sameButDrawing_answer : t.answer = s.answer := by rw [h]
theorem State.sameButDrawing_inbox : t.inbox = s.inbox := by rw [h]
theorem State.sameButDrawing_acc :
    t.acc = { s.acc with dstMapX := t.acc.dstMapX, dstMapY := t.acc.dstMapY } := by rw [h]

end

theorem State.sameButDrawing_trans {s t u : State} (h : s.sameButDrawing t) (k : t.sameButDrawing u) :
    s.sameButDrawing u := by
  unfold State.sameButDrawing at *
  rw [k, h]

theorem State.drawsLaw_trans {s t u : State} (h : s.drawsLaw t) (k : t.drawsLaw u) : s.drawsLaw u := by
  obtain ⟨hf, ⟨l1, ho1, hs1⟩, hm⟩ := h
  obtain ⟨kf, ⟨l2, ho2, hs2⟩, km⟩ := k
  have hcfg := State.sameButDrawing_cfg hf
  have hr := State.sameButDrawing_raster hf
  refine ⟨State.sameButDrawing_trans hf kf, ⟨l2 ++ l1, by rw [ho2, ho1, List.append_assoc], ?_⟩, fun hc => ?_⟩
  · intro o ho
    rcases List.mem_append.1 ho with ho | ho
    · exact hs2 o ho
    · exact hs1 o ho
  · obtain ⟨tc, hst, hpg⟩ := hm hc
    obtain ⟨uc, kst, kpg⟩ := km tc
    unfold State.stampedFrom at *
    unfold State.pagesFrom at *
    rw [hcfg, hr] at kst kpg
    refine ⟨uc, fun a ha => ?_, fun p => ?_⟩
    · by_cases h1 : u.vramAt a = t.vramAt a
      · have h2 := hst a (by rwa [h1] at ha)
        refine ⟨h2.1, ?_⟩
        rcases kpg (a >>> Config.pageShift) with h3 | h3
        · rw [h3]; exact h2.2
        · exact h3.1
      · exact kst a h1
    · rcases kpg p with h3 | h3
      · rw [h3]; exact hpg p
      · exact .inr h3

/-! ## The parts of a primitive -/

theorem State.drawsLaw_withLive (s : State) (l : Live) : s.drawsLaw (s.withLive l) :=
  ⟨rfl, ⟨[], rfl, by simp⟩, fun h => ⟨h, fun _ hne => absurd rfl hne, fun _ => .inl rfl⟩⟩

theorem State.drawsLaw_writeBack (s : State) : s.drawsLaw s.writeBack :=
  ⟨rfl, ⟨[], rfl, by simp⟩, fun h => ⟨h, fun _ hne => absurd rfl hne, fun _ => .inl rfl⟩⟩

theorem State.drawsLaw_sysRead (s : State) (a : Word) (n : Nat) : s.drawsLaw (s.sysRead a n).2 :=
  ⟨rfl, ⟨[], rfl, by simp⟩, fun h => ⟨h, fun _ hne => absurd rfl hne, fun _ => .inl rfl⟩⟩

theorem State.drawsLaw_sysWrite (s : State) (a : Word) (n : Nat) (v : Word) : s.drawsLaw (s.sysWrite a n v) :=
  ⟨rfl, ⟨[.sysWrite a n (lowBytes v n)], rfl, by simp⟩,
    fun h => ⟨h, fun _ hne => absurd rfl hne, fun _ => .inl rfl⟩⟩

theorem State.page_le_guard {c : HostConfig} {i : Nat} (h : i < HostConfig.vramSize c) :
    i >>> Config.pageShift ≤ HostConfig.guardPage c := by
  unfold HostConfig.guardPage
  rw [Nat.shiftRight_eq_div_pow, Nat.shiftRight_eq_div_pow]
  exact Nat.div_le_div_right (Nat.le_of_lt h)

/-- A byte write: what it stores, what it stamps, and what it leaves alone. -/
theorem State.drawsLaw_vramWriteByte (s : State) (i : Nat) (v : Byte) : s.drawsLaw (s.vramWriteByte i v) := by
  unfold State.vramWriteByte
  split
  · rename_i hi
    refine ⟨rfl, ⟨[], rfl, by simp⟩, fun h => ?_⟩
    have hp := State.page_le_guard hi
    have hcw := h.2.2.1
    refine ⟨⟨Memory.write_wf h.1 _ _, Memory.write_below h.2.1 hi _, Counters.write_wf hcw _ _,
      Counters.write_below h.2.2.2.1 (by simpa using Nat.lt_succ_of_le hp) _, h.2.2.2.2⟩, fun a ha => ?_, fun p => ?_⟩
    · by_cases hai : a = i
      · subst hai
        exact ⟨hi, by simp [State.dirty, Counters.read_write_same hcw]⟩
      · exact absurd ((Memory.getD_write s.vram i a v _).trans (if_neg hai)) ha
    · by_cases hpi : p = i >>> Config.pageShift
      · subst hpi
        exact .inr ⟨by simp [State.dirty, Counters.read_write_same hcw], hp⟩
      · exact .inl (Counters.read_write_other hpi _ _)
  · exact State.drawsLaw_refl s

theorem State.drawsLaw_vramWrite (s : State) (a : Nat) (bs : List Byte) : s.drawsLaw (s.vramWrite a bs) := by
  induction bs generalizing s a with
  | nil => exact State.drawsLaw_refl s
  | cons b bs ih => exact State.drawsLaw_trans (State.drawsLaw_vramWriteByte s a b) (ih _ _)

theorem State.drawsLaw_accelRead (s : State) (a : Word) (n : Nat) : s.drawsLaw (s.accelRead a n).2 := by
  unfold State.accelRead
  by_cases h : s.inWindow a
  · rw [if_pos h]; exact State.drawsLaw_refl s
  · rw [if_neg h]; exact State.drawsLaw_sysRead s a n

theorem State.drawsLaw_accelWrite (s : State) (a : Word) (n : Nat) (v : Word) : s.drawsLaw (s.accelWrite a n v) := by
  unfold State.accelWrite
  by_cases h : s.inWindow a
  · rw [if_pos h]; exact State.drawsLaw_vramWrite s _ _
  · rw [if_neg h]; exact State.drawsLaw_sysWrite s a n v

/-! ### The access a pixel makes, by depth -/

theorem State.readPixelOf_one {d : MapDesc} (h : depthOf d.format = .one) (s : State) (x y : Int) :
    s.readPixelOf d x y =
      (((s.accelRead (addr1 s.cfg d x y) 1).1 >>> s.bitpos d x) &&& 1, (s.accelRead (addr1 s.cfg d x y) 1).2) := by
  unfold State.readPixelOf; rw [h]

theorem State.readPixelOf_eight {d : MapDesc} (h : depthOf d.format = .eight) (s : State) (x y : Int) :
    s.readPixelOf d x y = s.accelRead (addr8 s.cfg d x y) 1 := by
  unfold State.readPixelOf; rw [h]

theorem State.readPixelOf_sixteen {d : MapDesc} (h : depthOf d.format = .sixteen) (s : State) (x y : Int) :
    s.readPixelOf d x y =
      (s.orient16 (s.accelRead (addr16 s.cfg d x y) 2).1, (s.accelRead (addr16 s.cfg d x y) 2).2) := by
  unfold State.readPixelOf; rw [h]

theorem State.readPixelOf_reserved {d : MapDesc} (h : depthOf d.format = .reserved) (s : State) (x y : Int) :
    s.readPixelOf d x y = (0, s) := by
  unfold State.readPixelOf; rw [h]

theorem State.writePixelOf_one {d : MapDesc} (h : depthOf d.format = .one) (s : State) (x y : Int) (v : Word) :
    s.writePixelOf d x y v =
      (s.accelRead (addr1 s.cfg d x y) 1).2.accelWrite (addr1 s.cfg d x y) 1
        (((s.accelRead (addr1 s.cfg d x y) 1).1 &&& ~~~(1#32 <<< s.bitpos d x)) ||| ((v &&& 1) <<< s.bitpos d x)) := by
  unfold State.writePixelOf; rw [h]

theorem State.writePixelOf_eight {d : MapDesc} (h : depthOf d.format = .eight) (s : State) (x y : Int) (v : Word) :
    s.writePixelOf d x y v = s.accelWrite (addr8 s.cfg d x y) 1 v := by
  unfold State.writePixelOf; rw [h]

theorem State.writePixelOf_sixteen {d : MapDesc} (h : depthOf d.format = .sixteen) (s : State) (x y : Int) (v : Word) :
    s.writePixelOf d x y v = s.accelWrite (addr16 s.cfg d x y) 2 (s.orient16 v) := by
  unfold State.writePixelOf; rw [h]

theorem State.writePixelOf_reserved {d : MapDesc} (h : depthOf d.format = .reserved) (s : State) (x y : Int)
    (v : Word) : s.writePixelOf d x y v = s := by
  unfold State.writePixelOf; rw [h]

theorem State.drawsLaw_readPixelOf (s : State) (d : MapDesc) (x y : Int) : s.drawsLaw (s.readPixelOf d x y).2 := by
  cases h : depthOf d.format
  · rw [State.readPixelOf_one h]; exact State.drawsLaw_accelRead s (addr1 s.cfg d x y) 1
  · rw [State.readPixelOf_eight h]; exact State.drawsLaw_accelRead s (addr8 s.cfg d x y) 1
  · rw [State.readPixelOf_sixteen h]; exact State.drawsLaw_accelRead s (addr16 s.cfg d x y) 2
  · rw [State.readPixelOf_reserved h]; exact State.drawsLaw_refl s

theorem State.drawsLaw_readPixel (s : State) (m : BitVec 2) (x y : Int) : s.drawsLaw (s.readPixel m x y).2 :=
  State.drawsLaw_readPixelOf s _ x y

theorem State.drawsLaw_writePixelOf (s : State) (d : MapDesc) (x y : Int) (v : Word) :
    s.drawsLaw (s.writePixelOf d x y v) := by
  cases h : depthOf d.format
  · rw [State.writePixelOf_one h]
    exact State.drawsLaw_trans (State.drawsLaw_accelRead s (addr1 s.cfg d x y) 1) (State.drawsLaw_accelWrite _ _ _ _)
  · rw [State.writePixelOf_eight h]; exact State.drawsLaw_accelWrite s _ _ _
  · rw [State.writePixelOf_sixteen h]; exact State.drawsLaw_accelWrite s _ _ _
  · rw [State.writePixelOf_reserved h]; exact State.drawsLaw_refl s

theorem State.drawsLaw_writePixel (s : State) (m : BitVec 2) (x y : Int) (v : Word) :
    s.drawsLaw (s.writePixel m x y v) :=
  State.drawsLaw_writePixelOf s _ x y v

theorem State.drawsLaw_fetchSource (s : State) (f : CmdFields) (mix : Bool) (x y : Int) :
    s.drawsLaw (s.fetchSource f mix x y).2 := by
  unfold State.fetchSource State.fgSource State.bgSource
  split <;> split
  · exact State.drawsLaw_readPixel s _ x y
  · exact State.drawsLaw_refl s
  · exact State.drawsLaw_readPixel s _ x y
  · exact State.drawsLaw_refl s

theorem State.drawsLaw_fetchMix (s : State) (f : CmdFields) (x y : Int) : s.drawsLaw (s.fetchMix f x y).2 := by
  unfold State.fetchMix
  split
  · exact State.drawsLaw_readPixel s _ x y
  · exact State.drawsLaw_refl s

theorem State.drawsLaw_combine (s : State) (f : CmdFields) (c : StepCtx) (d : Word) : s.drawsLaw (s.combine f c d) :=
  State.drawsLaw_trans (State.drawsLaw_fetchSource s f c.mix c.sx c.sy) (State.drawsLaw_writePixel _ _ _ _ _)

theorem State.drawsLaw_pixelStep (s : State) (f : CmdFields) (c : StepCtx) : s.drawsLaw (s.pixelStep f c) := by
  unfold State.pixelStep
  split
  · exact State.drawsLaw_refl s
  · split
    · exact State.drawsLaw_refl s
    · have h := State.drawsLaw_readPixel s (selectMap f.dstSel) c.dx c.dy
      dsimp only
      split
      · exact h
      · exact State.drawsLaw_trans h (State.drawsLaw_combine _ f c _)

/-! ## The primitives -/

/-- A relation that composes and that one iteration satisfies holds across all iterations. -/
theorem iter_rel {α : Type} {R : α → α → Prop} (hr : ∀ a, R a a) (ht : ∀ a b c, R a b → R b c → R a c)
    {f : α → α} (hf : ∀ a, R a (f a)) (n : Nat) (a : α) : R a (iter n f a) := by
  induction n generalizing a with
  | zero => exact hr a
  | succ n ih => exact ht _ _ _ (hf a) (ih (f a))

theorem State.drawsLaw_iter {f : State → State} (hf : ∀ s : State, s.drawsLaw (f s)) (n : Nat) (s : State) :
    s.drawsLaw (iter n f s) :=
  iter_rel (R := State.drawsLaw) State.drawsLaw_refl (fun _ _ _ => State.drawsLaw_trans) hf n s

theorem State.drawsLaw_blitPixel (s : State) (p : BlitParams) : s.drawsLaw (s.blitPixel p) :=
  State.drawsLaw_trans (State.drawsLaw_fetchMix s _ _ _) (State.drawsLaw_pixelStep _ _ _)

theorem State.drawsLaw_blitIter (p : BlitParams) (s : State) : s.drawsLaw (State.blitIter p s) :=
  State.drawsLaw_trans (State.drawsLaw_blitPixel s p) (State.drawsLaw_withLive _ _)

theorem State.drawsLaw_bitBlt (s : State) : s.drawsLaw s.bitBlt :=
  State.drawsLaw_trans
    (State.drawsLaw_trans (State.drawsLaw_withLive s _) (State.drawsLaw_iter (State.drawsLaw_blitIter _) _ _))
    (State.drawsLaw_writeBack _)

theorem State.drawsLaw_walkPixel (s : State) (f : CmdFields) : s.drawsLaw (s.walkPixel f) :=
  State.drawsLaw_trans (State.drawsLaw_fetchMix s _ _ _) (State.drawsLaw_pixelStep _ _ _)

theorem lineIter_draws (p : LineParams) (es : Int × State) : es.2.drawsLaw (lineIter p es).2 := by
  unfold lineIter
  dsimp only
  split <;> exact State.drawsLaw_trans (State.drawsLaw_walkPixel _ _) (State.drawsLaw_withLive _ _)

theorem State.drawsLaw_lineDraw (s : State) : s.drawsLaw s.lineDraw := by
  have h := iter_rel (R := fun a b : Int × State => a.2.drawsLaw b.2) (fun a => State.drawsLaw_refl a.2)
    (fun _ _ _ => State.drawsLaw_trans) (lineIter_draws s.lineParams) (s.acc.bltWidth.toNat + 1)
    (sext14 s.acc.bresErrTerm, s.withLive (s.loadLive 0 s.acc.bltWidth.toNat))
  exact State.drawsLaw_trans (State.drawsLaw_trans (State.drawsLaw_withLive s _) h) (State.drawsLaw_writeBack _)

theorem State.drawsLaw_strokeIter (p : StrokeParams) (s : State) : s.drawsLaw (State.strokeIter p s) := by
  have h : s.drawsLaw (if p.draw then s.walkPixel p.f else s) := by
    split
    · exact State.drawsLaw_walkPixel s _
    · exact State.drawsLaw_refl s
  unfold State.strokeIter
  dsimp only
  split <;> exact State.drawsLaw_trans h (State.drawsLaw_withLive _ _)

theorem State.drawsLaw_stroke (s : State) (dir : BitVec 3) (draw : Bool) (len : BitVec 4) :
    s.drawsLaw (s.stroke dir draw len) :=
  State.drawsLaw_trans
    (State.drawsLaw_trans (State.drawsLaw_withLive s _) (State.drawsLaw_iter (State.drawsLaw_strokeIter _) _ _))
    (State.drawsLaw_writeBack _)

theorem State.drawsLaw_strokeByte (s : State) (b : Byte) : s.drawsLaw (s.strokeByte b) :=
  State.drawsLaw_stroke s _ _ _

theorem State.drawsLaw_shortStrokes (s : State) : s.drawsLaw s.shortStrokes :=
  State.drawsLaw_trans
    (State.drawsLaw_trans
      (State.drawsLaw_trans (State.drawsLaw_strokeByte s _) (State.drawsLaw_strokeByte _ _))
      (State.drawsLaw_strokeByte _ _))
    (State.drawsLaw_strokeByte _ _)

theorem State.drawsLaw_shortStrokeTrigger (s : State) : s.drawsLaw s.shortStrokeTrigger := by
  unfold State.shortStrokeTrigger
  split
  · exact State.drawsLaw_shortStrokes s
  · exact State.drawsLaw_refl s

theorem State.drawsLaw_commandTrigger (s : State) : s.drawsLaw s.commandTrigger := by
  unfold State.commandTrigger
  split
  · exact State.drawsLaw_lineDraw s
  · exact State.drawsLaw_bitBlt s
  · exact State.drawsLaw_refl s

end Sys2Proof.Machine
end

