-- ==== Sys2Proof/Laws/Frames.lean ====
section
/-! SUPPORT. Frames: what the operations behind the rows leave alone. `State.keepsHost` is the frame of every row but the
ones that the host's own events change; `State.sameButTick` is the frame of the raster tick. -/

namespace Sys2Proof.Machine

/-! ## What no row changes -/

/-- The host's side of the state: the inbox, the device's existence and number, the configuration, the host-set flags, the
legacy CRTC file. -/
def State.keepsHost (s t : State) : Prop :=
  t.inbox = s.inbox ∧ t.attached = s.attached ∧ t.cfg = s.cfg ∧ t.flags = s.flags ∧ t.legacyCrtc = s.legacyCrtc ∧
    t.generation = s.generation

theorem State.keepsHost_refl (s : State) : State.keepsHost s s := ⟨rfl, rfl, rfl, rfl, rfl, rfl⟩

theorem State.keepsHost_trans {s t u : State} (h : State.keepsHost s t) (k : State.keepsHost t u) : State.keepsHost s u :=
  ⟨k.1.trans h.1, k.2.1.trans h.2.1, k.2.2.1.trans h.2.2.1, k.2.2.2.1.trans h.2.2.2.1, k.2.2.2.2.1.trans h.2.2.2.2.1,
    k.2.2.2.2.2.trans h.2.2.2.2.2⟩

theorem State.keepsHost_of_drawsLaw {s t : State} (h : s.drawsLaw t) : State.keepsHost s t := by
  have := h.1
  exact ⟨State.sameButDrawing_inbox this, State.sameButDrawing_attached this, State.sameButDrawing_cfg this,
    State.sameButDrawing_flags this, State.sameButDrawing_legacyCrtc this, State.sameButDrawing_generation this⟩

theorem State.keepsHost_recalc (s : State) : s.keepsHost s.recalc := ⟨rfl, rfl, rfl, rfl, rfl, rfl⟩

theorem State.keepsHost_updateMapping (s : State) : s.keepsHost s.updateMapping := ⟨rfl, rfl, rfl, rfl, rfl, rfl⟩

theorem State.keepsHost_wrBytes (s : State) (o : Nat) (bs : List Byte) : s.keepsHost (s.wrBytes o bs) := by
  unfold State.wrBytes
  dsimp only
  have h1 : State.keepsHost s { s with acc := accMerge s.cfg.accelRegMap s.acc o bs } := ⟨rfl, rfl, rfl, rfl, rfl, rfl⟩
  have h2 : ∀ u : State, State.keepsHost u
      (if touchesLane3 s.cfg.accelRegMap .command o bs.length then u.commandTrigger else u) := by
    intro u; split
    · exact State.keepsHost_of_drawsLaw (State.drawsLaw_commandTrigger u)
    · exact State.keepsHost_refl u
  split
  · exact State.keepsHost_trans (State.keepsHost_trans h1 (h2 _)) (State.keepsHost_of_drawsLaw
    (State.drawsLaw_shortStrokeTrigger _))
  · exact State.keepsHost_trans h1 (h2 _)

theorem State.keepsHost_respond (s : State) (a : Answer) : s.keepsHost (s.respond a) := ⟨rfl, rfl, rfl, rfl, rfl, rfl⟩

theorem State.keepsHost_subStore (s : State) (f : SubField) (l : Nat) (v : Byte) : s.keepsHost (s.subStore f l v) := by
  unfold State.subStore
  split
  · exact ⟨rfl, rfl, rfl, rfl, rfl, rfl⟩
  · exact ⟨rfl, rfl, rfl, rfl, rfl, rfl⟩
  · unfold State.paletteWrite; split <;> exact ⟨rfl, rfl, rfl, rfl, rfl, rfl⟩
  · exact ⟨rfl, rfl, rfl, rfl, rfl, rfl⟩
  · exact ⟨rfl, rfl, rfl, rfl, rfl, rfl⟩

theorem State.keepsHost_subWrite (s : State) (i : Nat) (v : Byte) : s.keepsHost (s.subWrite i v) := by
  unfold State.subWrite
  split
  · split
    · exact State.keepsHost_trans (State.keepsHost_subStore _ _ _ _) (State.keepsHost_recalc _)
    · exact State.keepsHost_subStore _ _ _ _
  · exact State.keepsHost_refl s

theorem State.keepsHost_portStore (s : State) (f : PortField) (v : Byte) : s.keepsHost (s.portStore f v) := by
  unfold State.portStore
  split <;> first | exact State.keepsHost_subWrite _ _ _ | exact ⟨rfl, rfl, rfl, rfl, rfl, rfl⟩

theorem State.keepsHost_portWrite (s : State) (p : BitVec 4) (v : Byte) : s.keepsHost (s.portWrite p v) := by
  unfold State.portWrite; split
  · exact State.keepsHost_portStore _ _ _
  · exact State.keepsHost_refl s

theorem State.keepsHost_accessField (s : State) (f : PortField) (a : ByteAccess) : s.keepsHost (s.accessField f a) := by
  unfold State.accessField; split
  · exact State.keepsHost_respond _ _
  · exact State.keepsHost_portStore _ _ _

theorem State.keepsHost_accessSub (s : State) (i : Nat) (a : ByteAccess) : s.keepsHost (s.accessSub i a) := by
  unfold State.accessSub; split
  · exact State.keepsHost_respond _ _
  · exact State.keepsHost_subWrite _ _ _

theorem State.keepsHost_accessPort (s : State) (i : BitVec 4) (a : ByteAccess) : s.keepsHost (s.accessPort i a) := by
  unfold State.accessPort; split
  · exact State.keepsHost_respond _ _
  · exact State.keepsHost_portWrite _ _ _

theorem State.keepsHost_accessRegister (s : State) (r : AccReg) (a : RegAccess) : s.keepsHost (s.accessRegister r a) := by
  unfold State.accessRegister; split
  · exact State.keepsHost_respond _ _
  · exact State.keepsHost_wrBytes _ _ _

theorem State.keepsHost_accessPixel (s : State) (i : BitVec 4) (a : PixAccess) : s.keepsHost (s.accessPixel i a) := by
  unfold State.accessPixel; split
  · exact State.keepsHost_trans (State.keepsHost_of_drawsLaw (State.drawsLaw_readPixelOf _ _ _ _))
      (State.keepsHost_respond _ _)
  · exact State.keepsHost_of_drawsLaw (State.drawsLaw_writePixelOf _ _ _ _ _)

theorem State.drawsLaw_apertureWrite (s : State) (a : Nat) (bs : List Byte) : s.drawsLaw (s.apertureWrite a bs) := by
  unfold State.apertureWrite
  split
  · exact State.drawsLaw_vramWrite _ _ _
  · clear * -
    induction bs generalizing s a with
    | nil => exact State.drawsLaw_refl s
    | cons b bs ih =>
      refine State.drawsLaw_trans ?_ (ih (s.apertureWriteByte a b) (a+1))
      unfold State.apertureWriteByte
      split
      · exact State.drawsLaw_vramWriteByte _ _ _
      · exact State.drawsLaw_refl s

theorem State.keepsHost_fgSource (s : State) (f : BitVec 2) (m : BitVec 4) (x y : Int) : s.keepsHost (s.fgSource f m x
    y).2 := by
  unfold State.fgSource; split
  · exact State.keepsHost_of_drawsLaw (State.drawsLaw_readPixel _ _ _ _)
  · exact State.keepsHost_refl s

theorem State.keepsHost_bgSource (s : State) (f : BitVec 2) (m : BitVec 4) (x y : Int) : s.keepsHost (s.bgSource f m x
    y).2 := by
  unfold State.bgSource; split
  · exact State.keepsHost_of_drawsLaw (State.drawsLaw_readPixel _ _ _ _)
  · exact State.keepsHost_refl s

/-! ## What a tick may change -/

/-- `t` differs from `s` at most in the raster state, the dirty counters, output pixels and calls to the host. -/
def State.sameButTick (s t : State) : Prop :=
  t = { s with raster := t.raster, changedvram := t.changedvram, fb := t.fb, outputs := t.outputs }

theorem State.sameButTick_refl (s : State) : State.sameButTick s s := rfl

theorem State.sameButTick_trans {s t u : State} (h : State.sameButTick s t) (k : State.sameButTick t u) :
    State.sameButTick s u := by
  unfold State.sameButTick at *; rw [k, h]

theorem State.sameButTick_withRaster (s : State) (r : Raster) : s.sameButTick (s.withRaster r) := rfl

theorem State.sameButTick_emit (s : State) (o : Output) : s.sameButTick (s.emit o) := rfl

theorem State.sameButTick_fbWrite (s : State) (l : Half) (x : Nat) (v : Nat) : s.sameButTick (s.fbWrite l x v) := rfl

theorem State.sameButTick_stampPage (s : State) (p : Nat) : s.sameButTick (s.stampPage p) := by
  unfold State.stampPage; split <;> rfl

theorem State.sameButTick_foldl {α : Type} (l : List α) (f : State → α → State) (hf : ∀ t a, State.sameButTick t (f t
    a)) (s : State) :
    State.sameButTick s (l.foldl f s) := by
  induction l generalizing s with
  | nil => exact State.sameButTick_refl s
  | cons a l ih => exact State.sameButTick_trans (hf s a) (ih _)

theorem State.sameButTick_cursorTrigger (s : State) : s.sameButTick s.cursorTrigger := by
  unfold State.cursorTrigger
  refine State.sameButTick_trans (t := s.cursorTriggerFirst) ?_ ?_
  · unfold State.cursorTriggerFirst; dsimp only; split <;> rfl
  · unfold State.cursorTriggerSecond; dsimp only; split <;> rfl

theorem State.sameButTick_markFirstLine (s : State) : s.sameButTick s.markFirstLine := by
  unfold State.markFirstLine; split <;> rfl

theorem State.sameButTick_stampCursorLine (s : State) : s.sameButTick s.stampCursorLine := by
  unfold State.stampCursorLine; split
  · exact State.sameButTick_trans (State.sameButTick_stampPage _ _) (State.sameButTick_stampPage _ _)
  · rfl

theorem State.sameButTick_cursorColumn (s : State) (l : Half) (a i : Nat) : s.sameButTick (s.cursorColumn l a i) := by
  unfold State.cursorColumn; dsimp only
  split
  · rfl
  · split
    · unfold State.cursorPixel; split <;> rfl
    · rfl

theorem State.sameButTick_cursorColumns (s : State) (l : Half) : s.sameButTick (s.cursorColumns l) :=
  State.sameButTick_foldl (List.range 64) (fun t i => t.cursorColumn l s.raster.latch.addr.toNat i) (fun t _ =>
    State.sameButTick_cursorColumn t _ _ _) s

theorem State.sameButTick_cursorDraw (s : State) (l : Half) : s.sameButTick (s.cursorDraw l) :=
  State.sameButTick_trans (State.sameButTick_cursorColumns s l) (State.sameButTick_withRaster _ _)

theorem State.sameButTick_renderPixels (s : State) : s.sameButTick s.renderPixels :=
  State.sameButTick_foldl _ _ (fun t _ => State.sameButTick_fbWrite t _ _ _) _

theorem State.sameButTick_renderLine (s : State) : s.sameButTick s.renderLine := by
  unfold State.renderLine; split
  · exact State.sameButTick_trans (State.sameButTick_withRaster s _) (State.sameButTick_renderPixels _)
  · exact State.sameButTick_refl s

theorem State.sameButTick_drawCursorLine (s : State) : s.sameButTick s.drawCursorLine := by
  unfold State.drawCursorLine; split
  · exact State.sameButTick_trans (State.sameButTick_cursorDraw s _) (State.sameButTick_withRaster _ _)
  · exact State.sameButTick_refl s

theorem State.sameButTick_markLastLine (s : State) : s.sameButTick s.markLastLine := by
  unfold State.markLastLine; split
  · exact State.sameButTick_withRaster _ _
  · exact State.sameButTick_refl s

theorem State.sameButTick_displayLine (s : State) : s.sameButTick s.displayLine :=
  State.sameButTick_trans (State.sameButTick_trans (State.sameButTick_trans (State.sameButTick_trans
    (State.sameButTick_trans (State.sameButTick_markFirstLine s) (State.sameButTick_stampCursorLine _))
    (State.sameButTick_renderLine _)) (State.sameButTick_withRaster _ _)) (State.sameButTick_drawCursorLine _))
    (State.sameButTick_markLastLine _)

theorem State.sameButTick_displayIfOn (s : State) : s.sameButTick s.displayIfOn := by
  unfold State.displayIfOn; split
  · exact State.sameButTick_displayLine s
  · exact State.sameButTick_refl s

theorem State.sameButTick_enterActiveLine (s : State) : s.sameButTick s.enterActiveLine :=
  State.sameButTick_trans (State.sameButTick_trans (State.sameButTick_trans (State.sameButTick_cursorTrigger s)
    (State.sameButTick_withRaster _ _)) (State.sameButTick_displayIfOn _)) (State.sameButTick_withRaster _ _)

theorem State.sameButTick_atThreshold (s : State) (n : Nat) (act : State → State) (h : ∀ s, State.sameButTick s (act s))
    : s.sameButTick (s.atThreshold n act) := by
  unfold State.atThreshold; split
  · exact h s
  · exact State.sameButTick_refl s

theorem State.sameButTick_advanceRow (s : State) : s.sameButTick s.advanceRow := by
  unfold State.advanceRow; dsimp only; split
  · split <;> exact State.sameButTick_withRaster _ _
  · exact State.sameButTick_refl s

theorem State.sameButTick_enterBlankLine (s : State) : s.sameButTick s.enterBlankLine :=
  State.sameButTick_trans (State.sameButTick_trans (State.sameButTick_trans (State.sameButTick_trans
    (State.sameButTick_trans (State.sameButTick_trans (State.sameButTick_withRaster s _) (State.sameButTick_advanceRow
    _)) (State.sameButTick_withRaster _ _)) (State.sameButTick_atThreshold _ _ State.atSplit fun _ => rfl))
    (State.sameButTick_atThreshold _ _ State.atDisplayEnd fun _ => rfl)) (State.sameButTick_atThreshold _ _
    State.atVsync fun _ => rfl)) (State.sameButTick_atThreshold _ _ State.atTotal fun _ => rfl)

theorem State.sameButTick_tick (s : State) : s.sameButTick s.tick := by
  unfold State.tick; split
  · split
    · exact State.sameButTick_enterBlankLine s
    · exact State.sameButTick_enterActiveLine s
  · exact State.sameButTick_refl s
end Sys2Proof.Machine
end

