-- ==== Sys2Proof/Laws/PerInstr.lean ====
section
/-! SUPPORT. One family of statements made per instruction: the encoding of a row begins with the tag of its format, which is
what the decoder looks at first (log 2). -/

/-- The encoding of a row begins with its format tag. -/
def Sys2Proof.Laws.TagLeads.Statement (i : Sys2Proof.Instr) : Prop :=
  (Sys2Proof.encode i).head? = some i.tag

namespace Sys2Proof.Laws.TagLeads

open Sys2Proof

-- Theorem bodies in sequence: many waiting at once would each hold a thread of the compile.
set_option Elab.async false

theorem wr (off : BitVec 7) (len : Len) (val : Word) : Statement (.wr off len val) := rfl
theorem rd (off : BitVec 7) (len : Len) : Statement (.rd off len) := rfl
theorem cmd (word : Word) : Statement (.cmd word) := rfl
theorem ssv (word : Word) : Statement (.ssv word) := rfl
theorem out (port : BitVec 4) (val : Byte) : Statement (.out port val) := rfl
theorem inp (port : BitVec 4) : Statement (.inp port) := rfl
theorem apw (addr : Word) (len : Len) (val : Word) : Statement (.apw addr len val) := rfl
theorem apr (addr : Word) (len : Len) : Statement (.apr addr len) := rfl
theorem mmr (off : BitVec 13) : Statement (.mmr off) := rfl
theorem tick : Statement .tick := rfl
theorem opRsvd0 (rest : BitVec 28) : Statement (.opRsvd0 rest) := rfl
theorem opRsvd1 (rest : BitVec 28) : Statement (.opRsvd1 rest) := rfl
theorem opRsvd2 (rest : BitVec 28) : Statement (.opRsvd2 rest) := rfl
theorem opLineRead (rest : BitVec 28) : Statement (.opLineRead rest) := rfl
theorem opShortStroke (rest : BitVec 28) : Statement (.opShortStroke rest) := rfl
theorem opLineDraw (rest : BitVec 28) : Statement (.opLineDraw rest) := rfl
theorem opRsvd6 (rest : BitVec 28) : Statement (.opRsvd6 rest) := rfl
theorem opRsvd7 (rest : BitVec 28) : Statement (.opRsvd7 rest) := rfl
theorem opBitblt (rest : BitVec 28) : Statement (.opBitblt rest) := rfl
theorem opBitbltInv (rest : BitVec 28) : Statement (.opBitbltInv rest) := rfl
theorem opAreaFill (rest : BitVec 28) : Statement (.opAreaFill rest) := rfl
theorem opRsvdB (rest : BitVec 28) : Statement (.opRsvdB rest) := rfl
theorem opRsvdC (rest : BitVec 28) : Statement (.opRsvdC rest) := rfl
theorem opRsvdD (rest : BitVec 28) : Statement (.opRsvdD rest) := rfl
theorem opRsvdE (rest : BitVec 28) : Statement (.opRsvdE rest) := rfl
theorem opRsvdF (rest : BitVec 28) : Statement (.opRsvdF rest) := rfl
theorem dmEvery (firstCol : Bool) (firstRow : Bool) : Statement (.dmEvery firstCol firstRow) := rfl
theorem dmNotFirstCol (firstCol : Bool) (firstRow : Bool) : Statement (.dmNotFirstCol firstCol firstRow) := rfl
theorem dmNotFirstRow (firstCol : Bool) (firstRow : Bool) : Statement (.dmNotFirstRow firstCol firstRow) := rfl
theorem dm3 (firstCol : Bool) (firstRow : Bool) : Statement (.dm3 firstCol firstRow) := rfl
theorem clipOff (dx : Word) (dy : Word) : Statement (.clipOff dx dy) := rfl
theorem clipOn1 (dx : Word) (dy : Word) : Statement (.clipOn1 dx dy) := rfl
theorem clipOn2 (dx : Word) (dy : Word) : Statement (.clipOn2 dx dy) := rfl
theorem clipOn3 (dx : Word) (dy : Word) : Statement (.clipOn3 dx dy) := rfl
theorem oct0 : Statement .oct0 := rfl
theorem oct1 : Statement .oct1 := rfl
theorem oct2 : Statement .oct2 := rfl
theorem oct3 : Statement .oct3 := rfl
theorem oct4 : Statement .oct4 := rfl
theorem oct5 : Statement .oct5 := rfl
theorem oct6 : Statement .oct6 := rfl
theorem oct7 : Statement .oct7 := rfl
theorem fgSrcColor0 (srcSel : BitVec 4) (sx : Word) (sy : Word) : Statement (.fgSrcColor0 srcSel sx sy) := rfl
theorem fgSrcColor1 (srcSel : BitVec 4) (sx : Word) (sy : Word) : Statement (.fgSrcColor1 srcSel sx sy) := rfl
theorem fgSrcMap (srcSel : BitVec 4) (sx : Word) (sy : Word) : Statement (.fgSrcMap srcSel sx sy) := rfl
theorem fgSrcColor3 (srcSel : BitVec 4) (sx : Word) (sy : Word) : Statement (.fgSrcColor3 srcSel sx sy) := rfl
theorem bgSrcColor0 (srcSel : BitVec 4) (sx : Word) (sy : Word) : Statement (.bgSrcColor0 srcSel sx sy) := rfl
theorem bgSrcColor1 (srcSel : BitVec 4) (sx : Word) (sy : Word) : Statement (.bgSrcColor1 srcSel sx sy) := rfl
theorem bgSrcMap (srcSel : BitVec 4) (sx : Word) (sy : Word) : Statement (.bgSrcMap srcSel sx sy) := rfl
theorem bgSrcColor3 (srcSel : BitVec 4) (sx : Word) (sy : Word) : Statement (.bgSrcColor3 srcSel sx sy) := rfl
theorem patNone : Statement .patNone := rfl
theorem patMap (sel : BitVec 4) (px : Word) (py : Word) : Statement (.patMap sel px py) := rfl
theorem srcMapSel (sel : BitVec 4) : Statement (.srcMapSel sel) := rfl
theorem dstMapSel (sel : BitVec 4) : Statement (.dstMapSel sel) := rfl
theorem ropClear (d : Word) (s : Word) : Statement (.ropClear d s) := rfl
theorem ropAnd (d : Word) (s : Word) : Statement (.ropAnd d s) := rfl
theorem ropAndNot (d : Word) (s : Word) : Statement (.ropAndNot d s) := rfl
theorem ropSrc (d : Word) (s : Word) : Statement (.ropSrc d s) := rfl
theorem ropNotAnd (d : Word) (s : Word) : Statement (.ropNotAnd d s) := rfl
theorem ropNop (d : Word) (s : Word) : Statement (.ropNop d s) := rfl
theorem ropXor (d : Word) (s : Word) : Statement (.ropXor d s) := rfl
theorem ropOr (d : Word) (s : Word) : Statement (.ropOr d s) := rfl
theorem ropNor (d : Word) (s : Word) : Statement (.ropNor d s) := rfl
theorem ropXnor (d : Word) (s : Word) : Statement (.ropXnor d s) := rfl
theorem ropNotDest (d : Word) (s : Word) : Statement (.ropNotDest d s) := rfl
theorem ropOrNot (d : Word) (s : Word) : Statement (.ropOrNot d s) := rfl
theorem ropNotSrc (d : Word) (s : Word) : Statement (.ropNotSrc d s) := rfl
theorem ropNotOrDest (d : Word) (s : Word) : Statement (.ropNotOrDest d s) := rfl
theorem ropNand (d : Word) (s : Word) : Statement (.ropNand d s) := rfl
theorem ropSet (d : Word) (s : Word) : Statement (.ropSet d s) := rfl
theorem ropMax (d : Word) (s : Word) : Statement (.ropMax d s) := rfl
theorem ropMin (d : Word) (s : Word) : Statement (.ropMin d s) := rfl
theorem ropAddSat (d : Word) (s : Word) : Statement (.ropAddSat d s) := rfl
theorem ropSubSatDs (d : Word) (s : Word) : Statement (.ropSubSatDs d s) := rfl
theorem ropSubSatSd (d : Word) (s : Word) : Statement (.ropSubSatSd d s) := rfl
theorem ropAvg (d : Word) (s : Word) : Statement (.ropAvg d s) := rfl
theorem ropMixUndef16 (d : Word) (s : Word) : Statement (.ropMixUndef16 d s) := rfl
theorem ropMixUndef17 (d : Word) (s : Word) : Statement (.ropMixUndef17 d s) := rfl
theorem ropMixUndef18 (d : Word) (s : Word) : Statement (.ropMixUndef18 d s) := rfl
theorem ropMixUndef19 (d : Word) (s : Word) : Statement (.ropMixUndef19 d s) := rfl
theorem ropMixUndef1a (d : Word) (s : Word) : Statement (.ropMixUndef1a d s) := rfl
theorem ropMixUndef1b (d : Word) (s : Word) : Statement (.ropMixUndef1b d s) := rfl
theorem ropMixUndef1c (d : Word) (s : Word) : Statement (.ropMixUndef1c d s) := rfl
theorem ropMixUndef1d (d : Word) (s : Word) : Statement (.ropMixUndef1d d s) := rfl
theorem ropMixUndef1e (d : Word) (s : Word) : Statement (.ropMixUndef1e d s) := rfl
theorem ropMixUndef1f (d : Word) (s : Word) : Statement (.ropMixUndef1f d s) := rfl
theorem ccTrue (dest : Word) : Statement (.ccTrue dest) := rfl
theorem ccGt (dest : Word) : Statement (.ccGt dest) := rfl
theorem ccEq (dest : Word) : Statement (.ccEq dest) := rfl
theorem ccLt (dest : Word) : Statement (.ccLt dest) := rfl
theorem ccX4 (dest : Word) : Statement (.ccX4 dest) := rfl
theorem ccGe (dest : Word) : Statement (.ccGe dest) := rfl
theorem ccNe (dest : Word) : Statement (.ccNe dest) := rfl
theorem ccLe (dest : Word) : Statement (.ccLe dest) := rfl
theorem strokeDir0 (draw : Bool) (len : BitVec 4) : Statement (.strokeDir0 draw len) := rfl
theorem strokeDir1 (draw : Bool) (len : BitVec 4) : Statement (.strokeDir1 draw len) := rfl
theorem strokeDir2 (draw : Bool) (len : BitVec 4) : Statement (.strokeDir2 draw len) := rfl
theorem strokeDir3 (draw : Bool) (len : BitVec 4) : Statement (.strokeDir3 draw len) := rfl
theorem strokeDir4 (draw : Bool) (len : BitVec 4) : Statement (.strokeDir4 draw len) := rfl
theorem strokeDir5 (draw : Bool) (len : BitVec 4) : Statement (.strokeDir5 draw len) := rfl
theorem strokeDir6 (draw : Bool) (len : BitVec 4) : Statement (.strokeDir6 draw len) := rfl
theorem strokeDir7 (draw : Bool) (len : BitVec 4) : Statement (.strokeDir7 draw len) := rfl
theorem pf1 (packed : Bool) (acc : PixAccess) : Statement (.pf1 packed acc) := rfl
theorem pfRsvd1 (packed : Bool) (acc : PixAccess) : Statement (.pfRsvd1 packed acc) := rfl
theorem pfRsvd2 (packed : Bool) (acc : PixAccess) : Statement (.pfRsvd2 packed acc) := rfl
theorem pf8 (packed : Bool) (acc : PixAccess) : Statement (.pf8 packed acc) := rfl
theorem pf16 (packed : Bool) (acc : PixAccess) : Statement (.pf16 packed acc) := rfl
theorem pfRsvd5 (packed : Bool) (acc : PixAccess) : Statement (.pfRsvd5 packed acc) := rfl
theorem pfRsvd6 (packed : Bool) (acc : PixAccess) : Statement (.pfRsvd6 packed acc) := rfl
theorem pfRsvd7 (packed : Bool) (acc : PixAccess) : Statement (.pfRsvd7 packed acc) := rfl
theorem accPxMapIdx (acc : RegAccess) : Statement (.accPxMapIdx acc) := rfl
theorem accMapBase (acc : RegAccess) : Statement (.accMapBase acc) := rfl
theorem accMapWidth (acc : RegAccess) : Statement (.accMapWidth acc) := rfl
theorem accMapHeight (acc : RegAccess) : Statement (.accMapHeight acc) := rfl
theorem accMapFormat (acc : RegAccess) : Statement (.accMapFormat acc) := rfl
theorem accBresErrTerm (acc : RegAccess) : Statement (.accBresErrTerm acc) := rfl
theorem accBresK1 (acc : RegAccess) : Statement (.accBresK1 acc) := rfl
theorem accBresK2 (acc : RegAccess) : Statement (.accBresK2 acc) := rfl
theorem accShortStroke (acc : RegAccess) : Statement (.accShortStroke acc) := rfl
theorem accFrgdMix (acc : RegAccess) : Statement (.accFrgdMix acc) := rfl
theorem accBkgdMix (acc : RegAccess) : Statement (.accBkgdMix acc) := rfl
theorem accCcCond (acc : RegAccess) : Statement (.accCcCond acc) := rfl
theorem accColorCmp (acc : RegAccess) : Statement (.accColorCmp acc) := rfl
theorem accPlaneMask (acc : RegAccess) : Statement (.accPlaneMask acc) := rfl
theorem accFrgdColor (acc : RegAccess) : Statement (.accFrgdColor acc) := rfl
theorem accBkgdColor (acc : RegAccess) : Statement (.accBkgdColor acc) := rfl
theorem accBltWidth (acc : RegAccess) : Statement (.accBltWidth acc) := rfl
theorem accBltHeight (acc : RegAccess) : Statement (.accBltHeight acc) := rfl
theorem accMaskMapOriginXOff (acc : RegAccess) : Statement (.accMaskMapOriginXOff acc) := rfl
theorem accMaskMapOriginYOff (acc : RegAccess) : Statement (.accMaskMapOriginYOff acc) := rfl
theorem accSrcMapX (acc : RegAccess) : Statement (.accSrcMapX acc) := rfl
theorem accSrcMapY (acc : RegAccess) : Statement (.accSrcMapY acc) := rfl
theorem accPatMapX (acc : RegAccess) : Statement (.accPatMapX acc) := rfl
theorem accPatMapY (acc : RegAccess) : Statement (.accPatMapY acc) := rfl
theorem accDstMapX (acc : RegAccess) : Statement (.accDstMapX acc) := rfl
theorem accDstMapY (acc : RegAccess) : Statement (.accDstMapY acc) := rfl
theorem accCommand (acc : RegAccess) : Statement (.accCommand acc) := rfl
theorem portOpMode (acc : ByteAccess) : Statement (.portOpMode acc) := rfl
theorem portApertureCntl (acc : ByteAccess) : Statement (.portApertureCntl acc) := rfl
theorem portNone2 (acc : ByteAccess) : Statement (.portNone2 acc) := rfl
theorem portNone3 (acc : ByteAccess) : Statement (.portNone3 acc) := rfl
theorem portPort4 (acc : ByteAccess) : Statement (.portPort4 acc) := rfl
theorem portNone5 (acc : ByteAccess) : Statement (.portNone5 acc) := rfl
theorem portNone6 (acc : ByteAccess) : Statement (.portNone6 acc) := rfl
theorem portNone7 (acc : ByteAccess) : Statement (.portNone7 acc) := rfl
theorem portApIdx (acc : ByteAccess) : Statement (.portApIdx acc) := rfl
theorem portAccessMode (acc : ByteAccess) : Statement (.portAccessMode acc) := rfl
theorem portRegIdx (acc : ByteAccess) : Statement (.portRegIdx acc) := rfl
theorem portDataB (acc : ByteAccess) : Statement (.portDataB acc) := rfl
theorem portDataC (acc : ByteAccess) : Statement (.portDataC acc) := rfl
theorem portDataD (acc : ByteAccess) : Statement (.portDataD acc) := rfl
theorem portDataE (acc : ByteAccess) : Statement (.portDataE acc) := rfl
theorem portDataF (acc : ByteAccess) : Statement (.portDataF acc) := rfl
theorem idx10 (acc : ByteAccess) : Statement (.idx10 acc) := rfl
theorem idx11 (acc : ByteAccess) : Statement (.idx11 acc) := rfl
theorem idx12 (acc : ByteAccess) : Statement (.idx12 acc) := rfl
theorem idx13 (acc : ByteAccess) : Statement (.idx13 acc) := rfl
theorem idx14 (acc : ByteAccess) : Statement (.idx14 acc) := rfl
theorem idx15 (acc : ByteAccess) : Statement (.idx15 acc) := rfl
theorem idx18 (acc : ByteAccess) : Statement (.idx18 acc) := rfl
theorem idx19 (acc : ByteAccess) : Statement (.idx19 acc) := rfl
theorem idx20 (acc : ByteAccess) : Statement (.idx20 acc) := rfl
theorem idx21 (acc : ByteAccess) : Statement (.idx21 acc) := rfl
theorem idx22 (acc : ByteAccess) : Statement (.idx22 acc) := rfl
theorem idx23 (acc : ByteAccess) : Statement (.idx23 acc) := rfl
theorem idx24 (acc : ByteAccess) : Statement (.idx24 acc) := rfl
theorem idx25 (acc : ByteAccess) : Statement (.idx25 acc) := rfl
theorem idx28 (acc : ByteAccess) : Statement (.idx28 acc) := rfl
theorem idx29 (acc : ByteAccess) : Statement (.idx29 acc) := rfl
theorem idx2c (acc : ByteAccess) : Statement (.idx2c acc) := rfl
theorem idx2d (acc : ByteAccess) : Statement (.idx2d acc) := rfl
theorem idx30 (acc : ByteAccess) : Statement (.idx30 acc) := rfl
theorem idx31 (acc : ByteAccess) : Statement (.idx31 acc) := rfl
theorem idx32 (acc : ByteAccess) : Statement (.idx32 acc) := rfl
theorem idx33 (acc : ByteAccess) : Statement (.idx33 acc) := rfl
theorem idx34 (acc : ByteAccess) : Statement (.idx34 acc) := rfl
theorem idx35 (acc : ByteAccess) : Statement (.idx35 acc) := rfl
theorem idx36 (acc : ByteAccess) : Statement (.idx36 acc) := rfl
theorem idx38 (acc : ByteAccess) : Statement (.idx38 acc) := rfl
theorem idx39 (acc : ByteAccess) : Statement (.idx39 acc) := rfl
theorem idx3a (acc : ByteAccess) : Statement (.idx3a acc) := rfl
theorem idx3b (acc : ByteAccess) : Statement (.idx3b acc) := rfl
theorem idx3c (acc : ByteAccess) : Statement (.idx3c acc) := rfl
theorem idx3d (acc : ByteAccess) : Statement (.idx3d acc) := rfl
theorem idx40 (acc : ByteAccess) : Statement (.idx40 acc) := rfl
theorem idx41 (acc : ByteAccess) : Statement (.idx41 acc) := rfl
theorem idx42 (acc : ByteAccess) : Statement (.idx42 acc) := rfl
theorem idx43 (acc : ByteAccess) : Statement (.idx43 acc) := rfl
theorem idx44 (acc : ByteAccess) : Statement (.idx44 acc) := rfl
theorem idx51 (acc : ByteAccess) : Statement (.idx51 acc) := rfl
theorem idx54 (acc : ByteAccess) : Statement (.idx54 acc) := rfl
theorem idx60 (acc : ByteAccess) : Statement (.idx60 acc) := rfl
theorem idx61 (acc : ByteAccess) : Statement (.idx61 acc) := rfl
theorem idx65 (acc : ByteAccess) : Statement (.idx65 acc) := rfl
theorem idx6a (acc : ByteAccess) : Statement (.idx6a acc) := rfl

end Sys2Proof.Laws.TagLeads
end

