-- ==== Sys2Proof/Laws/Raster.lean ====
section
/-! SUPPORT. The raster machine's parts: the renderer's pixels and the cursor's columns write output pixels and nothing
else; what the display-end decay leaves in a dirty counter; what a stamp leaves. -/

namespace Sys2Proof.Machine

/-- `t` differs from `s` at most in output pixels. -/
def State.sameButPixels (s t : State) : Prop := t = { s with fb := t.fb }

theorem State.sameButPixels_refl (s : State) : s.sameButPixels s := rfl

theorem State.sameButPixels_trans {s t u : State} (h : s.sameButPixels t) (k : t.sameButPixels u) :
    s.sameButPixels u := by
  unfold State.sameButPixels at *; rw [k, h]

theorem State.sameButPixels_foldl {α : Type} (l : List α) (f : State → α → State)
    (hf : ∀ t a, State.sameButPixels t (f t a)) (s : State) : s.sameButPixels (l.foldl f s) := by
  induction l generalizing s with
  | nil => exact State.sameButPixels_refl s
  | cons a l ih => exact State.sameButPixels_trans (hf s a) (ih _)

theorem State.sameButPixels_cursorColumn (s : State) (l : Half) (a i : Nat) :
    s.sameButPixels (s.cursorColumn l a i) := by
  unfold State.cursorColumn; dsimp only
  split
  · rfl
  · split
    · unfold State.cursorPixel; split <;> rfl
    · rfl

theorem State.sameButPixels_cursorColumns (s : State) (l : Half) : s.sameButPixels (s.cursorColumns l) := by
  unfold State.cursorColumns
  exact State.sameButPixels_foldl _ _ (fun t i => State.sameButPixels_cursorColumn t _ _ i) s

theorem State.sameButPixels_fbWrite (s : State) (l : Half) (x : Nat) (v : Nat) : s.sameButPixels (s.fbWrite l x v) :=
  rfl

theorem State.sameButPixels_renderPixels (s : State) : s.sameButPixels s.renderPixels := by
  unfold State.renderPixels
  exact State.sameButPixels_foldl _ _ (fun t i => State.sameButPixels_fbWrite t _ i _) s

@[simp] theorem State.cursorColumns_raster (s : State) (l : Half) : (s.cursorColumns l).raster = s.raster := by
  have h := State.sameButPixels_cursorColumns s l
  unfold State.sameButPixels at h; rw [h]

@[simp] theorem State.cursorColumns_changedvram (s : State) (l : Half) :
    (s.cursorColumns l).changedvram = s.changedvram := by
  have h := State.sameButPixels_cursorColumns s l
  unfold State.sameButPixels at h; rw [h]

@[simp] theorem State.renderPixels_raster (s : State) : s.renderPixels.raster = s.raster := by
  have h := State.sameButPixels_renderPixels s
  unfold State.sameButPixels at h; rw [h]

@[simp] theorem State.renderPixels_changedvram (s : State) : s.renderPixels.changedvram = s.changedvram := by
  have h := State.sameButPixels_renderPixels s
  unfold State.sameButPixels at h; rw [h]

/-- The raster state after the cursor row: the read pointer moved, nothing else. -/
theorem State.cursorDraw_raster (s : State) (l : Half) :
    (s.cursorDraw l).raster =
      { s.raster with latch := { s.raster.latch with addr := (s.cursorColumns l).cursorNextAddr } } := by
  unfold State.cursorDraw State.cursorAdvance
  rw [State.withRaster_raster, State.cursorColumns_raster]

@[simp] theorem State.cursorDraw_changedvram (s : State) (l : Half) : (s.cursorDraw l).changedvram = s.changedvram := by
  unfold State.cursorDraw State.cursorAdvance
  rw [State.withRaster_changedvram, State.cursorColumns_changedvram]

/-! ## Dirty counters -/

/-- A stamp leaves a counter as it was or at the frame counter. -/
theorem State.stampPage_dirty {s : State} (h : Counters.wf s.changedvram = true) (p q : Nat) :
    (s.stampPage p).dirty q =
      if q = p ∧ p ≤ HostConfig.guardPage s.cfg then s.raster.changeframecount else s.dirty q := by
  unfold State.stampPage
  split
  · rename_i hp
    unfold State.dirty
    simp only [Counters.read_write h, hp, and_true]
  · rename_i hp; rw [if_neg (fun e => hp e.2)]

theorem decayCounter_le (c : Byte) : (decayCounter c).toNat ≤ c.toNat := by
  unfold decayCounter; split
  · rename_i h; rw [h]
  · rename_i h
    have : c.toNat ≠ 0 := fun e => h (by apply BitVec.eq_of_toNat_eq; simpa using e)
    rw [BitVec.toNat_sub]; simp; omega

theorem decayCell_fst {c d : Host.Cell} (h : decayCell c = some d) : d.1 = c.1 := by
  unfold decayCell at h; split at h <;> cases h; rfl

/-- A read after the decay gives the counter one lower, not below 0. -/
theorem Counters.read_decay {m : List Host.Cell} {lo : Nat} (hm : Sparse.risingFrom lo m = true) (p : Nat) :
    Counters.read (m.filterMap decayCell) p = decayCounter (Counters.read m p) := by
  induction m generalizing lo with
  | nil => rfl
  | cons c m ih =>
    simp [Sparse.risingFrom] at hm
    have ih := ih hm.2
    rw [List.filterMap_cons]
    by_cases hp : c.1 = p
    · have hz : Counters.read m p = 0 := by
        unfold Counters.read; rw [Sparse.find_below (by omega : p < c.1 + 1) hm.2]; rfl
      have e1 : Counters.read (c :: m) p = c.2 := by unfold Counters.read; simp [Sparse.find, hp]
      rw [e1]
      cases hc : decayCell c with
      | none =>
        unfold decayCell at hc; split at hc
        · rename_i h; dsimp only; rw [ih, hz, h]; rfl
        · cases hc
      | some d =>
        unfold decayCell at hc; split at hc
        · cases hc
        · cases hc; unfold Counters.read; simp [Sparse.find, hp]
    · have e1 : Counters.read (c :: m) p = Counters.read m p := by unfold Counters.read; simp [Sparse.find, hp]
      rw [e1, ← ih]
      cases hc : decayCell c with
      | none => rfl
      | some d =>
        have := decayCell_fst hc
        unfold Counters.read; simp [Sparse.find, this, hp]

/-- Every dirty counter goes down by one at display end (R297). -/
theorem State.atDisplayEnd_dirty {s : State} (h : Counters.wf s.changedvram = true) (p : Nat) :
    s.atDisplayEnd.dirty p = decayCounter (s.dirty p) :=
  Counters.read_decay ((Counters.wf_iff _).1 h).1 p

end Sys2Proof.Machine
end

