-- ==== Sys2Proof/Laws/Rows.lean ====
section
/-! SUPPORT. What a row can do, said once: each row answers a next state, and its effect is one of four (an accelerator
effect, an accelerator effect with an answer, a port or sub-register write, the tick). -/

namespace Sys2Proof.Machine

theorem State.drawsLaw_fgSource (s : State) (f : BitVec 2) (m : BitVec 4) (x y : Int) :
    s.drawsLaw (s.fgSource f m x y).2 := by
  unfold State.fgSource; split
  · exact State.drawsLaw_readPixel _ _ _ _
  · exact State.drawsLaw_refl s

theorem State.drawsLaw_bgSource (s : State) (f : BitVec 2) (m : BitVec 4) (x y : Int) :
    s.drawsLaw (s.bgSource f m x y).2 := by
  unfold State.bgSource; split
  · exact State.drawsLaw_readPixel _ _ _ _
  · exact State.drawsLaw_refl s

/-- A write of the register block: the registers take the merged values, then what draws, draws (R253). -/
theorem State.drawsLaw_wrBytes (s : State) (off : Nat) (bs : List Byte) :
    (s.withAcc (accMerge s.cfg.accelRegMap s.acc off bs)).drawsLaw (s.wrBytes off bs) := by
  have h2 : ∀ u : State, u.drawsLaw
      (if touchesLane3 s.cfg.accelRegMap .command off bs.length then u.commandTrigger else u) := by
    intro u; split
    · exact State.drawsLaw_commandTrigger u
    · exact State.drawsLaw_refl u
  unfold State.wrBytes
  dsimp only
  split
  · exact State.drawsLaw_trans (h2 _) (State.drawsLaw_shortStrokeTrigger _)
  · exact h2 _

/-- The effect of a row on a state. -/
inductive RowEffect (s : State) : Instr → State → Prop where
  /-- The accelerator registers take values, and what draws, draws. -/
  | draws {i : Instr} {a : Accel} {t : State} (h : (s.withAcc a).drawsLaw t) : RowEffect s i t
  /-- The same, and a value is returned. -/
  | answers {i : Instr} {a : Accel} {t : State} {v : Answer} (h : (s.withAcc a).drawsLaw t) :
      RowEffect s i (t.respond v)
  /-- A write of an extended port. -/
  | port {i : Instr} {p : BitVec 4} {v : Byte}
      (h : i = .out p v ∨ ∃ f, (p, f) ∈ portRows ∧ i = f (.write v)) : RowEffect s i (s.portWrite p v)
  /-- A write through the port of a field. -/
  | field {i : Instr} {f : PortField} {v : Byte} (h : ∃ r, (f, r) ∈ fieldRows ∧ i = r (.write v)) :
      RowEffect s i (s.portStore f v)
  /-- A write of a sub-register. -/
  | sub {i : Instr} {k : Byte} {v : Byte} (h : ∃ f, (k, f) ∈ subRows ∧ i = f (.write v)) :
      RowEffect s i (s.subWrite k.toNat v)
  /-- A tick. -/
  | tick : RowEffect s .tick s.tick

theorem RowEffect.accessRegister (s : State) (i : Instr) (r : AccReg) (acc : RegAccess) :
    RowEffect s i (s.accessRegister r acc) := by
  cases acc with
  | read len => exact .answers (State.drawsLaw_refl s)
  | write len val => exact .draws (State.drawsLaw_wrBytes s _ _)

theorem RowEffect.accessPixel (s : State) (i : Instr) (format : BitVec 4) (acc : PixAccess) :
    RowEffect s i (s.accessPixel format acc) := by
  cases acc with
  | read m x y =>
    exact .answers (a := s.acc) (State.drawsLaw_readPixelOf s { s.mapDesc m with format := format } x.toInt y.toInt)
  | write m x y v => exact .draws (a := s.acc) (State.drawsLaw_writePixelOf s _ _ _ _)

set_option maxRecDepth 4000 in
/-- Every row answers a next state, by one of the effects of `RowEffect`. -/
theorem exec_effect (i : Instr) (s : State) : ∃ t, exec i s = .next t ∧ RowEffect s i t :=
  match i with
  | .wr _ _ _ => ⟨_, rfl, .draws (State.drawsLaw_wrBytes s _ _)⟩
  | .rd _ _ => ⟨_, rfl, .answers (State.drawsLaw_refl s)⟩
  | .cmd word => ⟨_, rfl, .draws (State.drawsLaw_commandTrigger (s.setCommand word))⟩
  | .ssv word => ⟨_, rfl, .draws (State.drawsLaw_shortStrokeTrigger (s.setShortStroke word))⟩
  | .out port _ => ⟨_, rfl, .port (.inl rfl)⟩
  | .inp _ => ⟨_, rfl, .answers (State.drawsLaw_refl s)⟩
  | .apw _ _ _ => ⟨_, rfl, .draws (State.drawsLaw_apertureWrite s _ _)⟩
  | .apr _ _ => ⟨_, rfl, .answers (State.drawsLaw_refl s)⟩
  | .mmr _ => ⟨_, rfl, .answers (State.drawsLaw_refl s)⟩
  | .tick => ⟨_, rfl, .tick⟩
  | .opRsvd0 rest => ⟨_, rfl, .draws (State.drawsLaw_refl (s.setCommand (commandWord s.cfg.cmdLayout 0x0 rest)))⟩
  | .opRsvd1 rest => ⟨_, rfl, .draws (State.drawsLaw_refl (s.setCommand (commandWord s.cfg.cmdLayout 0x1 rest)))⟩
  | .opRsvd2 rest => ⟨_, rfl, .draws (State.drawsLaw_refl (s.setCommand (commandWord s.cfg.cmdLayout 0x2 rest)))⟩
  | .opLineRead rest => ⟨_, rfl, .draws (State.drawsLaw_refl (s.setCommand (commandWord s.cfg.cmdLayout 0x3 rest)))⟩
  | .opShortStroke rest => ⟨_, rfl, .draws (State.drawsLaw_refl (s.setCommand (commandWord s.cfg.cmdLayout 0x4 rest)))⟩
  | .opLineDraw rest => ⟨_, rfl, .draws (State.drawsLaw_lineDraw (s.setCommand (commandWord s.cfg.cmdLayout 0x5 rest)))⟩
  | .opRsvd6 rest => ⟨_, rfl, .draws (State.drawsLaw_refl (s.setCommand (commandWord s.cfg.cmdLayout 0x6 rest)))⟩
  | .opRsvd7 rest => ⟨_, rfl, .draws (State.drawsLaw_refl (s.setCommand (commandWord s.cfg.cmdLayout 0x7 rest)))⟩
  | .opBitblt rest => ⟨_, rfl, .draws (State.drawsLaw_bitBlt (s.setCommand (commandWord s.cfg.cmdLayout 0x8 rest)))⟩
  | .opBitbltInv rest => ⟨_, rfl, .draws (State.drawsLaw_refl (s.setCommand (commandWord s.cfg.cmdLayout 0x9 rest)))⟩
  | .opAreaFill rest => ⟨_, rfl, .draws (State.drawsLaw_refl (s.setCommand (commandWord s.cfg.cmdLayout 0xA rest)))⟩
  | .opRsvdB rest => ⟨_, rfl, .draws (State.drawsLaw_refl (s.setCommand (commandWord s.cfg.cmdLayout 0xB rest)))⟩
  | .opRsvdC rest => ⟨_, rfl, .draws (State.drawsLaw_refl (s.setCommand (commandWord s.cfg.cmdLayout 0xC rest)))⟩
  | .opRsvdD rest => ⟨_, rfl, .draws (State.drawsLaw_refl (s.setCommand (commandWord s.cfg.cmdLayout 0xD rest)))⟩
  | .opRsvdE rest => ⟨_, rfl, .draws (State.drawsLaw_refl (s.setCommand (commandWord s.cfg.cmdLayout 0xE rest)))⟩
  | .opRsvdF rest => ⟨_, rfl, .draws (State.drawsLaw_refl (s.setCommand (commandWord s.cfg.cmdLayout 0xF rest)))⟩
  | .dmEvery _ _ => ⟨_, rfl, .answers (State.drawsLaw_refl s)⟩
  | .dmNotFirstCol _ _ => ⟨_, rfl, .answers (State.drawsLaw_refl s)⟩
  | .dmNotFirstRow _ _ => ⟨_, rfl, .answers (State.drawsLaw_refl s)⟩
  | .dm3 _ _ => ⟨_, rfl, .answers (State.drawsLaw_refl s)⟩
  | .clipOff _ _ => ⟨_, rfl, .answers (State.drawsLaw_refl s)⟩
  | .clipOn1 _ _ => ⟨_, rfl, .answers (State.drawsLaw_refl s)⟩
  | .clipOn2 _ _ => ⟨_, rfl, .answers (State.drawsLaw_refl s)⟩
  | .clipOn3 _ _ => ⟨_, rfl, .answers (State.drawsLaw_refl s)⟩
  | .oct0 => ⟨_, rfl, .answers (State.drawsLaw_refl s)⟩
  | .oct1 => ⟨_, rfl, .answers (State.drawsLaw_refl s)⟩
  | .oct2 => ⟨_, rfl, .answers (State.drawsLaw_refl s)⟩
  | .oct3 => ⟨_, rfl, .answers (State.drawsLaw_refl s)⟩
  | .oct4 => ⟨_, rfl, .answers (State.drawsLaw_refl s)⟩
  | .oct5 => ⟨_, rfl, .answers (State.drawsLaw_refl s)⟩
  | .oct6 => ⟨_, rfl, .answers (State.drawsLaw_refl s)⟩
  | .oct7 => ⟨_, rfl, .answers (State.drawsLaw_refl s)⟩
  | .fgSrcColor0 _ _ _ => ⟨_, rfl, .answers (State.drawsLaw_fgSource s _ _ _ _)⟩
  | .fgSrcColor1 _ _ _ => ⟨_, rfl, .answers (State.drawsLaw_fgSource s _ _ _ _)⟩
  | .fgSrcMap _ _ _ => ⟨_, rfl, .answers (State.drawsLaw_fgSource s _ _ _ _)⟩
  | .fgSrcColor3 _ _ _ => ⟨_, rfl, .answers (State.drawsLaw_fgSource s _ _ _ _)⟩
  | .bgSrcColor0 _ _ _ => ⟨_, rfl, .answers (State.drawsLaw_bgSource s _ _ _ _)⟩
  | .bgSrcColor1 _ _ _ => ⟨_, rfl, .answers (State.drawsLaw_bgSource s _ _ _ _)⟩
  | .bgSrcMap _ _ _ => ⟨_, rfl, .answers (State.drawsLaw_bgSource s _ _ _ _)⟩
  | .bgSrcColor3 _ _ _ => ⟨_, rfl, .answers (State.drawsLaw_bgSource s _ _ _ _)⟩
  | .patNone => ⟨_, rfl, .answers (State.drawsLaw_refl s)⟩
  | .patMap _ _ _ => ⟨_, rfl, .answers (State.drawsLaw_readPixel s _ _ _)⟩
  | .srcMapSel _ => ⟨_, rfl, .answers (State.drawsLaw_refl s)⟩
  | .dstMapSel _ => ⟨_, rfl, .answers (State.drawsLaw_refl s)⟩
  | .ropClear _ _ => ⟨_, rfl, .answers (State.drawsLaw_refl s)⟩
  | .ropAnd _ _ => ⟨_, rfl, .answers (State.drawsLaw_refl s)⟩
  | .ropAndNot _ _ => ⟨_, rfl, .answers (State.drawsLaw_refl s)⟩
  | .ropSrc _ _ => ⟨_, rfl, .answers (State.drawsLaw_refl s)⟩
  | .ropNotAnd _ _ => ⟨_, rfl, .answers (State.drawsLaw_refl s)⟩
  | .ropNop _ _ => ⟨_, rfl, .answers (State.drawsLaw_refl s)⟩
  | .ropXor _ _ => ⟨_, rfl, .answers (State.drawsLaw_refl s)⟩
  | .ropOr _ _ => ⟨_, rfl, .answers (State.drawsLaw_refl s)⟩
  | .ropNor _ _ => ⟨_, rfl, .answers (State.drawsLaw_refl s)⟩
  | .ropXnor _ _ => ⟨_, rfl, .answers (State.drawsLaw_refl s)⟩
  | .ropNotDest _ _ => ⟨_, rfl, .answers (State.drawsLaw_refl s)⟩
  | .ropOrNot _ _ => ⟨_, rfl, .answers (State.drawsLaw_refl s)⟩
  | .ropNotSrc _ _ => ⟨_, rfl, .answers (State.drawsLaw_refl s)⟩
  | .ropNotOrDest _ _ => ⟨_, rfl, .answers (State.drawsLaw_refl s)⟩
  | .ropNand _ _ => ⟨_, rfl, .answers (State.drawsLaw_refl s)⟩
  | .ropSet _ _ => ⟨_, rfl, .answers (State.drawsLaw_refl s)⟩
  | .ropMax _ _ => ⟨_, rfl, .answers (State.drawsLaw_refl s)⟩
  | .ropMin _ _ => ⟨_, rfl, .answers (State.drawsLaw_refl s)⟩
  | .ropAddSat _ _ => ⟨_, rfl, .answers (State.drawsLaw_refl s)⟩
  | .ropSubSatDs _ _ => ⟨_, rfl, .answers (State.drawsLaw_refl s)⟩
  | .ropSubSatSd _ _ => ⟨_, rfl, .answers (State.drawsLaw_refl s)⟩
  | .ropAvg _ _ => ⟨_, rfl, .answers (State.drawsLaw_refl s)⟩
  | .ropMixUndef16 _ _ => ⟨_, rfl, .answers (State.drawsLaw_refl s)⟩
  | .ropMixUndef17 _ _ => ⟨_, rfl, .answers (State.drawsLaw_refl s)⟩
  | .ropMixUndef18 _ _ => ⟨_, rfl, .answers (State.drawsLaw_refl s)⟩
  | .ropMixUndef19 _ _ => ⟨_, rfl, .answers (State.drawsLaw_refl s)⟩
  | .ropMixUndef1a _ _ => ⟨_, rfl, .answers (State.drawsLaw_refl s)⟩
  | .ropMixUndef1b _ _ => ⟨_, rfl, .answers (State.drawsLaw_refl s)⟩
  | .ropMixUndef1c _ _ => ⟨_, rfl, .answers (State.drawsLaw_refl s)⟩
  | .ropMixUndef1d _ _ => ⟨_, rfl, .answers (State.drawsLaw_refl s)⟩
  | .ropMixUndef1e _ _ => ⟨_, rfl, .answers (State.drawsLaw_refl s)⟩
  | .ropMixUndef1f _ _ => ⟨_, rfl, .answers (State.drawsLaw_refl s)⟩
  | .ccTrue _ => ⟨_, rfl, .answers (State.drawsLaw_refl s)⟩
  | .ccGt _ => ⟨_, rfl, .answers (State.drawsLaw_refl s)⟩
  | .ccEq _ => ⟨_, rfl, .answers (State.drawsLaw_refl s)⟩
  | .ccLt _ => ⟨_, rfl, .answers (State.drawsLaw_refl s)⟩
  | .ccX4 _ => ⟨_, rfl, .answers (State.drawsLaw_refl s)⟩
  | .ccGe _ => ⟨_, rfl, .answers (State.drawsLaw_refl s)⟩
  | .ccNe _ => ⟨_, rfl, .answers (State.drawsLaw_refl s)⟩
  | .ccLe _ => ⟨_, rfl, .answers (State.drawsLaw_refl s)⟩
  | .strokeDir0 _ _ => ⟨_, rfl, .draws (State.drawsLaw_stroke s _ _ _)⟩
  | .strokeDir1 _ _ => ⟨_, rfl, .draws (State.drawsLaw_stroke s _ _ _)⟩
  | .strokeDir2 _ _ => ⟨_, rfl, .draws (State.drawsLaw_stroke s _ _ _)⟩
  | .strokeDir3 _ _ => ⟨_, rfl, .draws (State.drawsLaw_stroke s _ _ _)⟩
  | .strokeDir4 _ _ => ⟨_, rfl, .draws (State.drawsLaw_stroke s _ _ _)⟩
  | .strokeDir5 _ _ => ⟨_, rfl, .draws (State.drawsLaw_stroke s _ _ _)⟩
  | .strokeDir6 _ _ => ⟨_, rfl, .draws (State.drawsLaw_stroke s _ _ _)⟩
  | .strokeDir7 _ _ => ⟨_, rfl, .draws (State.drawsLaw_stroke s _ _ _)⟩
  | .pf1 _ acc => ⟨_, rfl, RowEffect.accessPixel s _ _ acc⟩
  | .pfRsvd1 _ acc => ⟨_, rfl, RowEffect.accessPixel s _ _ acc⟩
  | .pfRsvd2 _ acc => ⟨_, rfl, RowEffect.accessPixel s _ _ acc⟩
  | .pf8 _ acc => ⟨_, rfl, RowEffect.accessPixel s _ _ acc⟩
  | .pf16 _ acc => ⟨_, rfl, RowEffect.accessPixel s _ _ acc⟩
  | .pfRsvd5 _ acc => ⟨_, rfl, RowEffect.accessPixel s _ _ acc⟩
  | .pfRsvd6 _ acc => ⟨_, rfl, RowEffect.accessPixel s _ _ acc⟩
  | .pfRsvd7 _ acc => ⟨_, rfl, RowEffect.accessPixel s _ _ acc⟩
  | .accPxMapIdx acc => ⟨_, rfl, RowEffect.accessRegister s _ _ acc⟩
  | .accMapBase acc => ⟨_, rfl, RowEffect.accessRegister s _ _ acc⟩
  | .accMapWidth acc => ⟨_, rfl, RowEffect.accessRegister s _ _ acc⟩
  | .accMapHeight acc => ⟨_, rfl, RowEffect.accessRegister s _ _ acc⟩
  | .accMapFormat acc => ⟨_, rfl, RowEffect.accessRegister s _ _ acc⟩
  | .accBresErrTerm acc => ⟨_, rfl, RowEffect.accessRegister s _ _ acc⟩
  | .accBresK1 acc => ⟨_, rfl, RowEffect.accessRegister s _ _ acc⟩
  | .accBresK2 acc => ⟨_, rfl, RowEffect.accessRegister s _ _ acc⟩
  | .accShortStroke acc => ⟨_, rfl, RowEffect.accessRegister s _ _ acc⟩
  | .accFrgdMix acc => ⟨_, rfl, RowEffect.accessRegister s _ _ acc⟩
  | .accBkgdMix acc => ⟨_, rfl, RowEffect.accessRegister s _ _ acc⟩
  | .accCcCond acc => ⟨_, rfl, RowEffect.accessRegister s _ _ acc⟩
  | .accColorCmp acc => ⟨_, rfl, RowEffect.accessRegister s _ _ acc⟩
  | .accPlaneMask acc => ⟨_, rfl, RowEffect.accessRegister s _ _ acc⟩
  | .accFrgdColor acc => ⟨_, rfl, RowEffect.accessRegister s _ _ acc⟩
  | .accBkgdColor acc => ⟨_, rfl, RowEffect.accessRegister s _ _ acc⟩
  | .accBltWidth acc => ⟨_, rfl, RowEffect.accessRegister s _ _ acc⟩
  | .accBltHeight acc => ⟨_, rfl, RowEffect.accessRegister s _ _ acc⟩
  | .accMaskMapOriginXOff acc => ⟨_, rfl, RowEffect.accessRegister s _ _ acc⟩
  | .accMaskMapOriginYOff acc => ⟨_, rfl, RowEffect.accessRegister s _ _ acc⟩
  | .accSrcMapX acc => ⟨_, rfl, RowEffect.accessRegister s _ _ acc⟩
  | .accSrcMapY acc => ⟨_, rfl, RowEffect.accessRegister s _ _ acc⟩
  | .accPatMapX acc => ⟨_, rfl, RowEffect.accessRegister s _ _ acc⟩
  | .accPatMapY acc => ⟨_, rfl, RowEffect.accessRegister s _ _ acc⟩
  | .accDstMapX acc => ⟨_, rfl, RowEffect.accessRegister s _ _ acc⟩
  | .accDstMapY acc => ⟨_, rfl, RowEffect.accessRegister s _ _ acc⟩
  | .accCommand acc => ⟨_, rfl, RowEffect.accessRegister s _ _ acc⟩
  | .portOpMode .read => ⟨_, rfl, .answers (State.drawsLaw_refl s)⟩
  | .portOpMode (.write v) => ⟨_, rfl, .field (f := .opMode) ⟨_, by simp [fieldRows], rfl⟩⟩
  | .portApertureCntl .read => ⟨_, rfl, .answers (State.drawsLaw_refl s)⟩
  | .portApertureCntl (.write v) => ⟨_, rfl, .field (f := .apertureCntl) ⟨_, by simp [fieldRows], rfl⟩⟩
  | .portNone2 .read => ⟨_, rfl, .answers (State.drawsLaw_refl s)⟩
  | .portNone2 (.write v) => ⟨_, rfl, .port (p := 0x2) (.inr ⟨_, by simp [portRows], rfl⟩)⟩
  | .portNone3 .read => ⟨_, rfl, .answers (State.drawsLaw_refl s)⟩
  | .portNone3 (.write v) => ⟨_, rfl, .port (p := 0x3) (.inr ⟨_, by simp [portRows], rfl⟩)⟩
  | .portPort4 .read => ⟨_, rfl, .answers (State.drawsLaw_refl s)⟩
  | .portPort4 (.write v) => ⟨_, rfl, .field (f := .port4) ⟨_, by simp [fieldRows], rfl⟩⟩
  | .portNone5 .read => ⟨_, rfl, .answers (State.drawsLaw_refl s)⟩
  | .portNone5 (.write v) => ⟨_, rfl, .port (p := 0x5) (.inr ⟨_, by simp [portRows], rfl⟩)⟩
  | .portNone6 .read => ⟨_, rfl, .answers (State.drawsLaw_refl s)⟩
  | .portNone6 (.write v) => ⟨_, rfl, .port (p := 0x6) (.inr ⟨_, by simp [portRows], rfl⟩)⟩
  | .portNone7 .read => ⟨_, rfl, .answers (State.drawsLaw_refl s)⟩
  | .portNone7 (.write v) => ⟨_, rfl, .port (p := 0x7) (.inr ⟨_, by simp [portRows], rfl⟩)⟩
  | .portApIdx .read => ⟨_, rfl, .answers (State.drawsLaw_refl s)⟩
  | .portApIdx (.write v) => ⟨_, rfl, .field (f := .apIdx) ⟨_, by simp [fieldRows], rfl⟩⟩
  | .portAccessMode .read => ⟨_, rfl, .answers (State.drawsLaw_refl s)⟩
  | .portAccessMode (.write v) => ⟨_, rfl, .field (f := .accessMode) ⟨_, by simp [fieldRows], rfl⟩⟩
  | .portRegIdx .read => ⟨_, rfl, .answers (State.drawsLaw_refl s)⟩
  | .portRegIdx (.write v) => ⟨_, rfl, .field (f := .regIdx) ⟨_, by simp [fieldRows], rfl⟩⟩
  | .portDataB .read => ⟨_, rfl, .answers (State.drawsLaw_refl s)⟩
  | .portDataB (.write v) => ⟨_, rfl, .field (f := .data) ⟨_, by simp [fieldRows], rfl⟩⟩
  | .portDataC .read => ⟨_, rfl, .answers (State.drawsLaw_refl s)⟩
  | .portDataC (.write v) => ⟨_, rfl, .field (f := .data) ⟨_, by simp [fieldRows], rfl⟩⟩
  | .portDataD .read => ⟨_, rfl, .answers (State.drawsLaw_refl s)⟩
  | .portDataD (.write v) => ⟨_, rfl, .field (f := .data) ⟨_, by simp [fieldRows], rfl⟩⟩
  | .portDataE .read => ⟨_, rfl, .answers (State.drawsLaw_refl s)⟩
  | .portDataE (.write v) => ⟨_, rfl, .field (f := .data) ⟨_, by simp [fieldRows], rfl⟩⟩
  | .portDataF .read => ⟨_, rfl, .answers (State.drawsLaw_refl s)⟩
  | .portDataF (.write v) => ⟨_, rfl, .field (f := .data) ⟨_, by simp [fieldRows], rfl⟩⟩
  | .idx10 .read => ⟨_, rfl, .answers (State.drawsLaw_refl s)⟩
  | .idx10 (.write v) => ⟨_, rfl, .sub (k := 0x10) ⟨_, by simp [subRows], rfl⟩⟩
  | .idx11 .read => ⟨_, rfl, .answers (State.drawsLaw_refl s)⟩
  | .idx11 (.write v) => ⟨_, rfl, .sub (k := 0x11) ⟨_, by simp [subRows], rfl⟩⟩
  | .idx12 .read => ⟨_, rfl, .answers (State.drawsLaw_refl s)⟩
  | .idx12 (.write v) => ⟨_, rfl, .sub (k := 0x12) ⟨_, by simp [subRows], rfl⟩⟩
  | .idx13 .read => ⟨_, rfl, .answers (State.drawsLaw_refl s)⟩
  | .idx13 (.write v) => ⟨_, rfl, .sub (k := 0x13) ⟨_, by simp [subRows], rfl⟩⟩
  | .idx14 .read => ⟨_, rfl, .answers (State.drawsLaw_refl s)⟩
  | .idx14 (.write v) => ⟨_, rfl, .sub (k := 0x14) ⟨_, by simp [subRows], rfl⟩⟩
  | .idx15 .read => ⟨_, rfl, .answers (State.drawsLaw_refl s)⟩
  | .idx15 (.write v) => ⟨_, rfl, .sub (k := 0x15) ⟨_, by simp [subRows], rfl⟩⟩
  | .idx18 .read => ⟨_, rfl, .answers (State.drawsLaw_refl s)⟩
  | .idx18 (.write v) => ⟨_, rfl, .sub (k := 0x18) ⟨_, by simp [subRows], rfl⟩⟩
  | .idx19 .read => ⟨_, rfl, .answers (State.drawsLaw_refl s)⟩
  | .idx19 (.write v) => ⟨_, rfl, .sub (k := 0x19) ⟨_, by simp [subRows], rfl⟩⟩
  | .idx20 .read => ⟨_, rfl, .answers (State.drawsLaw_refl s)⟩
  | .idx20 (.write v) => ⟨_, rfl, .sub (k := 0x20) ⟨_, by simp [subRows], rfl⟩⟩
  | .idx21 .read => ⟨_, rfl, .answers (State.drawsLaw_refl s)⟩
  | .idx21 (.write v) => ⟨_, rfl, .sub (k := 0x21) ⟨_, by simp [subRows], rfl⟩⟩
  | .idx22 .read => ⟨_, rfl, .answers (State.drawsLaw_refl s)⟩
  | .idx22 (.write v) => ⟨_, rfl, .sub (k := 0x22) ⟨_, by simp [subRows], rfl⟩⟩
  | .idx23 .read => ⟨_, rfl, .answers (State.drawsLaw_refl s)⟩
  | .idx23 (.write v) => ⟨_, rfl, .sub (k := 0x23) ⟨_, by simp [subRows], rfl⟩⟩
  | .idx24 .read => ⟨_, rfl, .answers (State.drawsLaw_refl s)⟩
  | .idx24 (.write v) => ⟨_, rfl, .sub (k := 0x24) ⟨_, by simp [subRows], rfl⟩⟩
  | .idx25 .read => ⟨_, rfl, .answers (State.drawsLaw_refl s)⟩
  | .idx25 (.write v) => ⟨_, rfl, .sub (k := 0x25) ⟨_, by simp [subRows], rfl⟩⟩
  | .idx28 .read => ⟨_, rfl, .answers (State.drawsLaw_refl s)⟩
  | .idx28 (.write v) => ⟨_, rfl, .sub (k := 0x28) ⟨_, by simp [subRows], rfl⟩⟩
  | .idx29 .read => ⟨_, rfl, .answers (State.drawsLaw_refl s)⟩
  | .idx29 (.write v) => ⟨_, rfl, .sub (k := 0x29) ⟨_, by simp [subRows], rfl⟩⟩
  | .idx2c .read => ⟨_, rfl, .answers (State.drawsLaw_refl s)⟩
  | .idx2c (.write v) => ⟨_, rfl, .sub (k := 0x2C) ⟨_, by simp [subRows], rfl⟩⟩
  | .idx2d .read => ⟨_, rfl, .answers (State.drawsLaw_refl s)⟩
  | .idx2d (.write v) => ⟨_, rfl, .sub (k := 0x2D) ⟨_, by simp [subRows], rfl⟩⟩
  | .idx30 .read => ⟨_, rfl, .answers (State.drawsLaw_refl s)⟩
  | .idx30 (.write v) => ⟨_, rfl, .sub (k := 0x30) ⟨_, by simp [subRows], rfl⟩⟩
  | .idx31 .read => ⟨_, rfl, .answers (State.drawsLaw_refl s)⟩
  | .idx31 (.write v) => ⟨_, rfl, .sub (k := 0x31) ⟨_, by simp [subRows], rfl⟩⟩
  | .idx32 .read => ⟨_, rfl, .answers (State.drawsLaw_refl s)⟩
  | .idx32 (.write v) => ⟨_, rfl, .sub (k := 0x32) ⟨_, by simp [subRows], rfl⟩⟩
  | .idx33 .read => ⟨_, rfl, .answers (State.drawsLaw_refl s)⟩
  | .idx33 (.write v) => ⟨_, rfl, .sub (k := 0x33) ⟨_, by simp [subRows], rfl⟩⟩
  | .idx34 .read => ⟨_, rfl, .answers (State.drawsLaw_refl s)⟩
  | .idx34 (.write v) => ⟨_, rfl, .sub (k := 0x34) ⟨_, by simp [subRows], rfl⟩⟩
  | .idx35 .read => ⟨_, rfl, .answers (State.drawsLaw_refl s)⟩
  | .idx35 (.write v) => ⟨_, rfl, .sub (k := 0x35) ⟨_, by simp [subRows], rfl⟩⟩
  | .idx36 .read => ⟨_, rfl, .answers (State.drawsLaw_refl s)⟩
  | .idx36 (.write v) => ⟨_, rfl, .sub (k := 0x36) ⟨_, by simp [subRows], rfl⟩⟩
  | .idx38 .read => ⟨_, rfl, .answers (State.drawsLaw_refl s)⟩
  | .idx38 (.write v) => ⟨_, rfl, .sub (k := 0x38) ⟨_, by simp [subRows], rfl⟩⟩
  | .idx39 .read => ⟨_, rfl, .answers (State.drawsLaw_refl s)⟩
  | .idx39 (.write v) => ⟨_, rfl, .sub (k := 0x39) ⟨_, by simp [subRows], rfl⟩⟩
  | .idx3a .read => ⟨_, rfl, .answers (State.drawsLaw_refl s)⟩
  | .idx3a (.write v) => ⟨_, rfl, .sub (k := 0x3A) ⟨_, by simp [subRows], rfl⟩⟩
  | .idx3b .read => ⟨_, rfl, .answers (State.drawsLaw_refl s)⟩
  | .idx3b (.write v) => ⟨_, rfl, .sub (k := 0x3B) ⟨_, by simp [subRows], rfl⟩⟩
  | .idx3c .read => ⟨_, rfl, .answers (State.drawsLaw_refl s)⟩
  | .idx3c (.write v) => ⟨_, rfl, .sub (k := 0x3C) ⟨_, by simp [subRows], rfl⟩⟩
  | .idx3d .read => ⟨_, rfl, .answers (State.drawsLaw_refl s)⟩
  | .idx3d (.write v) => ⟨_, rfl, .sub (k := 0x3D) ⟨_, by simp [subRows], rfl⟩⟩
  | .idx40 .read => ⟨_, rfl, .answers (State.drawsLaw_refl s)⟩
  | .idx40 (.write v) => ⟨_, rfl, .sub (k := 0x40) ⟨_, by simp [subRows], rfl⟩⟩
  | .idx41 .read => ⟨_, rfl, .answers (State.drawsLaw_refl s)⟩
  | .idx41 (.write v) => ⟨_, rfl, .sub (k := 0x41) ⟨_, by simp [subRows], rfl⟩⟩
  | .idx42 .read => ⟨_, rfl, .answers (State.drawsLaw_refl s)⟩
  | .idx42 (.write v) => ⟨_, rfl, .sub (k := 0x42) ⟨_, by simp [subRows], rfl⟩⟩
  | .idx43 .read => ⟨_, rfl, .answers (State.drawsLaw_refl s)⟩
  | .idx43 (.write v) => ⟨_, rfl, .sub (k := 0x43) ⟨_, by simp [subRows], rfl⟩⟩
  | .idx44 .read => ⟨_, rfl, .answers (State.drawsLaw_refl s)⟩
  | .idx44 (.write v) => ⟨_, rfl, .sub (k := 0x44) ⟨_, by simp [subRows], rfl⟩⟩
  | .idx51 .read => ⟨_, rfl, .answers (State.drawsLaw_refl s)⟩
  | .idx51 (.write v) => ⟨_, rfl, .sub (k := 0x51) ⟨_, by simp [subRows], rfl⟩⟩
  | .idx54 .read => ⟨_, rfl, .answers (State.drawsLaw_refl s)⟩
  | .idx54 (.write v) => ⟨_, rfl, .sub (k := 0x54) ⟨_, by simp [subRows], rfl⟩⟩
  | .idx60 .read => ⟨_, rfl, .answers (State.drawsLaw_refl s)⟩
  | .idx60 (.write v) => ⟨_, rfl, .sub (k := 0x60) ⟨_, by simp [subRows], rfl⟩⟩
  | .idx61 .read => ⟨_, rfl, .answers (State.drawsLaw_refl s)⟩
  | .idx61 (.write v) => ⟨_, rfl, .sub (k := 0x61) ⟨_, by simp [subRows], rfl⟩⟩
  | .idx65 .read => ⟨_, rfl, .answers (State.drawsLaw_refl s)⟩
  | .idx65 (.write v) => ⟨_, rfl, .sub (k := 0x65) ⟨_, by simp [subRows], rfl⟩⟩
  | .idx6a .read => ⟨_, rfl, .answers (State.drawsLaw_refl s)⟩
  | .idx6a (.write v) => ⟨_, rfl, .sub (k := 0x6A) ⟨_, by simp [subRows], rfl⟩⟩

end Sys2Proof.Machine
end

