-- ==== Sys2Proof/Laws/Stores.lean ====
section
/-! SUPPORT. A read after a write, for each store of data through its own accessor: the byte written where it was written,
and elsewhere what was read before; and the last of the applications that `iter` makes. -/

namespace Sys2Proof.Machine

/-! ## Video memory -/

/-- What a byte write of video memory stores (R75). -/
theorem State.vramAt_vramWriteByte (s : State) (i a : Nat) (v : Byte) :
    (s.vramWriteByte i v).vramAt a = if a = i ∧ i < HostConfig.vramSize s.cfg then v else s.vramAt a := by
  unfold State.vramWriteByte
  split
  · rename_i h
    exact (Memory.getD_write s.vram i a v _).trans (by simp [h, State.vramAt])
  · rename_i h
    simp [h]

/-- What a legacy-layer write of video memory stores (R46). -/
theorem State.vramAt_legacyWrite (s : State) (i a : Nat) (v : Byte) :
    (s.legacyWrite i v).vramAt a = if a = i ∧ i < HostConfig.vramSize s.cfg then v else s.vramAt a := by
  unfold State.legacyWrite
  split
  · rename_i h
    exact (Memory.getD_write s.vram i a v _).trans (by simp [h, State.vramAt])
  · rename_i h
    simp [h]

/-- What a byte write of video memory stamps (R75), in a state whose counters are canonical. -/
theorem State.dirty_vramWriteByte {s : State} (h : Counters.wf s.changedvram = true) (i p : Nat) (v : Byte) :
    (s.vramWriteByte i v).dirty p =
      if p = i >>> Config.pageShift ∧ i < HostConfig.vramSize s.cfg then s.raster.changeframecount else s.dirty p := by
  unfold State.vramWriteByte
  split
  · rename_i hi
    exact (Counters.read_write h _ p _).trans (by simp [hi, State.dirty])
  · rename_i hi
    simp [hi]

/-! ## The sprite buffer, the palette, the legacy CRTC file -/

/-- What a write of the sprite data register stores (R345). -/
theorem State.spriteAt_spriteWrite (s : State) (v : Byte) (a : Nat) :
    (s.spriteWrite v).spriteAt a = if a = s.ext.spriteIdx.toNat then v else s.spriteAt a :=
  Memory.getD_write s.spriteData _ a v _

/-- What a write of the palette data register commits: an entry with the third byte, nothing before it (R344). -/
theorem State.paletteAt_paletteWrite (s : State) (v : Byte) (i : Nat) :
    (s.paletteWrite v).paletteAt i =
      if s.ext.dacSeq = .blue ∧ i = s.ext.dacIndex.toNat then { r := s.ext.dacR, g := s.ext.dacG, b := v }
      else s.paletteAt i := by
  cases h : s.ext.dacSeq with
  | red => simp only [State.paletteWrite, h]; rfl
  | green => simp only [State.paletteWrite, h]; rfl
  | blue =>
    simp only [State.paletteWrite, h, true_and]
    exact Memory.getD_write s.palette _ i _ _

/-! ## The frame buffer -/

/-- Output pixels have keys of their own. -/
theorem fbKey_inj {k l : Half} {x y : Nat} : fbKey k y = fbKey l x ↔ k = l ∧ y = x := by
  have hk := k.isLt
  have hl := l.isLt
  unfold fbKey
  refine ⟨fun h => ⟨BitVec.eq_of_toNat_eq (by omega), by omega⟩, ?_⟩
  rintro ⟨rfl, rfl⟩
  rfl

/-- What a write of an output pixel leaves (R10, R25). -/
theorem State.fbRead_fbWrite (s : State) (l k : Half) (x y v : Nat) :
    (s.fbWrite l x v).fbRead k y = if k = l ∧ y = x then HostConfig.outPixel s.cfg v else s.fbRead k y := by
  unfold State.fbRead State.fbWrite
  rw [Memory.getD_write]
  simp only [fbKey_inj]

/-! ## Repetition -/

/-- The last application, taken off the end: `iter` itself takes the first. -/
theorem iter_succ_last {α : Type} (n : Nat) (f : α → α) (a : α) : iter (n + 1) f a = f (iter n f a) := by
  induction n generalizing a with
  | zero => rfl
  | succ n ih => exact ih (f a)

end Sys2Proof.Machine
end

