-- ==== Sys2Proof/Tests/Slice0.lean ====
section
/-! SUPPORT. Tests. Expected values come from the spec's tables and worked examples, named in each comment. The witnesses at
the end meet the hypotheses of the statements in `Certificates/Slice0/Obligations.lean`, clause by clause. -/

section

open Sys2Proof Sys2Proof.Machine

-- Theorem bodies in sequence: many waiting at once would each hold a thread of the compile.
set_option Elab.async false

/-! ## Well-formedness -/

/-- R100: a value fits its length tag. -/
theorem test_wellformed_wr : Instr.wellFormed (.wr 0x7C .b2 0x10000) = false ∧ Instr.wellFormed (.wr 0x7C .b2 0xFFFF) =
  true := by
  decide

/-- R100: a value fits its length tag. -/
theorem test_wellformed_apw : Instr.wellFormed (.apw 0 .b1 0x100) = false ∧ Instr.wellFormed (.apw 0 .b1 0xFF) = true := by
  decide

/-- R349: the boot ROM lies below 0x1800. -/
theorem test_wellformed_mmr : Instr.wellFormed (.mmr 0x1800) = false ∧ Instr.wellFormed (.mmr 0x17FF) = true := by decide

/-- R107: selector 8 is no map. -/
theorem test_wellformed_pattern : Instr.wellFormed (.patMap 8 0 0) = false ∧ Instr.wellFormed (.patMap 0 0 0) = true := by
  decide

/-- R253: each register's write fits its length tag. -/
theorem test_wellformed_registers :
    accRows.all (fun p => !(p.2 (.write .b1 0x100)).wellFormed && (p.2 (.write .b2 0x100)).wellFormed &&
      (p.2 (.read .b1)).wellFormed) = true := by
  decide

/-! ## Decoding: the bytes of every row, written out from the spec's encoding tables -/

/-- Each list of bytes decodes to its row, and nothing is left over. -/
def decodesAll (words : List (List Byte × Instr)) : Bool :=
  words.all (fun w => decide ((decode w.1).toOption = some (w.2, [])))

/-- The tuples of R100 under the framing of log 2. -/
theorem test_decode_events :
    decodesAll [
      ([0x01, 0x7D, 0x00, 0xAA, 0x00, 0x00, 0x00], .wr 0x7D .b1 0xAA),
      ([0x02, 0x7F, 0x02], .rd 0x7F .b4),
      ([0x03, 0x00, 0x80, 0x11, 0x80], .cmd 0x80118000),
      ([0x04, 0x13, 0x32, 0xD2, 0x00], .ssv 0x00D23213),
      ([0x05, 0x0A, 0x65], .out 0xA 0x65),
      ([0x06, 0x0F], .inp 0xF),
      ([0x07, 0x10, 0x00, 0x00, 0xE0, 0x01, 0xEF, 0xBE, 0x00, 0x00], .apw 0xE0000010 .b2 0xBEEF),
      ([0x08, 0x34, 0x12, 0x0A, 0x00, 0x02], .apr 0x000A1234 .b4),
      ([0x09, 0xFF, 0x17], .mmr 0x17FF),
      ([0x0A], .tick)] = true := by
  decide +kernel

/-- R103: opcode in bits 31:28 of the word; the other bits are kept. -/
theorem test_decode_opcodes :
    decodesAll [
      ([0x10, 0xE5, 0xCD, 0xAB, 0x00], .opRsvd0 0x0ABCDE5),
      ([0x10, 0xE5, 0xCD, 0xAB, 0x10], .opRsvd1 0x0ABCDE5),
      ([0x10, 0xE5, 0xCD, 0xAB, 0x20], .opRsvd2 0x0ABCDE5),
      ([0x10, 0xE5, 0xCD, 0xAB, 0x30], .opLineRead 0x0ABCDE5),
      ([0x10, 0xE5, 0xCD, 0xAB, 0x40], .opShortStroke 0x0ABCDE5),
      ([0x10, 0xE5, 0xCD, 0xAB, 0x50], .opLineDraw 0x0ABCDE5),
      ([0x10, 0xE5, 0xCD, 0xAB, 0x60], .opRsvd6 0x0ABCDE5),
      ([0x10, 0xE5, 0xCD, 0xAB, 0x70], .opRsvd7 0x0ABCDE5),
      ([0x10, 0xE5, 0xCD, 0xAB, 0x80], .opBitblt 0x0ABCDE5),
      ([0x10, 0xE5, 0xCD, 0xAB, 0x90], .opBitbltInv 0x0ABCDE5),
      ([0x10, 0xE5, 0xCD, 0xAB, 0xA0], .opAreaFill 0x0ABCDE5),
      ([0x10, 0xE5, 0xCD, 0xAB, 0xB0], .opRsvdB 0x0ABCDE5),
      ([0x10, 0xE5, 0xCD, 0xAB, 0xC0], .opRsvdC 0x0ABCDE5),
      ([0x10, 0xE5, 0xCD, 0xAB, 0xD0], .opRsvdD 0x0ABCDE5),
      ([0x10, 0xE5, 0xCD, 0xAB, 0xE0], .opRsvdE 0x0ABCDE5),
      ([0x10, 0xE5, 0xCD, 0xAB, 0xF0], .opRsvdF 0x0ABCDE5)] = true := by
  decide +kernel

/-- R105: bits 5:4, every other bit set. -/
theorem test_decode_draw_modes :
    decodesAll [
      ([0x11, 0xCF, 0xFF, 0xFF, 0xFF, 0x01, 0x00], .dmEvery true false),
      ([0x11, 0xDF, 0xFF, 0xFF, 0xFF, 0x01, 0x00], .dmNotFirstCol true false),
      ([0x11, 0xEF, 0xFF, 0xFF, 0xFF, 0x01, 0x00], .dmNotFirstRow true false),
      ([0x11, 0xFF, 0xFF, 0xFF, 0xFF, 0x01, 0x00], .dm3 true false)] = true := by
  decide +kernel

/-- R106: bits 7:6, every other bit set. -/
theorem test_decode_mask_modes :
    decodesAll [
      ([0x12, 0x3F, 0xFF, 0xFF, 0xFF, 0x05, 0x00, 0x00, 0x00, 0xFE, 0xFF, 0xFF, 0xFF], .clipOff 5 0xFFFFFFFE),
      ([0x12, 0x7F, 0xFF, 0xFF, 0xFF, 0x05, 0x00, 0x00, 0x00, 0xFE, 0xFF, 0xFF, 0xFF], .clipOn1 5 0xFFFFFFFE),
      ([0x12, 0xBF, 0xFF, 0xFF, 0xFF, 0x05, 0x00, 0x00, 0x00, 0xFE, 0xFF, 0xFF, 0xFF], .clipOn2 5 0xFFFFFFFE),
      ([0x12, 0xFF, 0xFF, 0xFF, 0xFF, 0x05, 0x00, 0x00, 0x00, 0xFE, 0xFF, 0xFF, 0xFF], .clipOn3 5 0xFFFFFFFE)] = true := by
  decide +kernel

/-- R104: bits 2:0, every other bit set. -/
theorem test_decode_octants :
    decodesAll [
      ([0x13, 0xF8, 0xFF, 0xFF, 0xFF], .oct0),
      ([0x13, 0xF9, 0xFF, 0xFF, 0xFF], .oct1),
      ([0x13, 0xFA, 0xFF, 0xFF, 0xFF], .oct2),
      ([0x13, 0xFB, 0xFF, 0xFF, 0xFF], .oct3),
      ([0x13, 0xFC, 0xFF, 0xFF, 0xFF], .oct4),
      ([0x13, 0xFD, 0xFF, 0xFF, 0xFF], .oct5),
      ([0x13, 0xFE, 0xFF, 0xFF, 0xFF], .oct6),
      ([0x13, 0xFF, 0xFF, 0xFF, 0xFF], .oct7)] = true := by
  decide +kernel

/-- R117: bits 25:24, with src_sel = 0xA. -/
theorem test_decode_fg_sources :
    decodesAll [
      ([0x14, 0xFF, 0xFF, 0xAF, 0xFC, 0x03, 0x00, 0x00, 0x00, 0xFC, 0xFF, 0xFF, 0xFF], .fgSrcColor0 0xA 3 0xFFFFFFFC),
      ([0x14, 0xFF, 0xFF, 0xAF, 0xFD, 0x03, 0x00, 0x00, 0x00, 0xFC, 0xFF, 0xFF, 0xFF], .fgSrcColor1 0xA 3 0xFFFFFFFC),
      ([0x14, 0xFF, 0xFF, 0xAF, 0xFE, 0x03, 0x00, 0x00, 0x00, 0xFC, 0xFF, 0xFF, 0xFF], .fgSrcMap 0xA 3 0xFFFFFFFC),
      ([0x14, 0xFF, 0xFF, 0xAF, 0xFF, 0x03, 0x00, 0x00, 0x00, 0xFC, 0xFF, 0xFF, 0xFF], .fgSrcColor3 0xA 3 0xFFFFFFFC)] =
        true := by
  decide +kernel

/-- R117: bits 27:26, with src_sel = 0xA. -/
theorem test_decode_bg_sources :
    decodesAll [
      ([0x15, 0xFF, 0xFF, 0xAF, 0xF3, 0x03, 0x00, 0x00, 0x00, 0xFC, 0xFF, 0xFF, 0xFF], .bgSrcColor0 0xA 3 0xFFFFFFFC),
      ([0x15, 0xFF, 0xFF, 0xAF, 0xF7, 0x03, 0x00, 0x00, 0x00, 0xFC, 0xFF, 0xFF, 0xFF], .bgSrcColor1 0xA 3 0xFFFFFFFC),
      ([0x15, 0xFF, 0xFF, 0xAF, 0xFB, 0x03, 0x00, 0x00, 0x00, 0xFC, 0xFF, 0xFF, 0xFF], .bgSrcMap 0xA 3 0xFFFFFFFC),
      ([0x15, 0xFF, 0xFF, 0xAF, 0xFF, 0x03, 0x00, 0x00, 0x00, 0xFC, 0xFF, 0xFF, 0xFF], .bgSrcColor3 0xA 3 0xFFFFFFFC)] =
        true := by
  decide +kernel

/-- R107: bits 15:12. -/
theorem test_decode_patterns :
    decodesAll [
      ([0x16, 0xFF, 0x8F, 0xFF, 0xFF, 0x03, 0x00, 0x00, 0x00, 0x04, 0x00, 0x00, 0x00], .patNone),
      ([0x16, 0xFF, 0x9F, 0xFF, 0xFF, 0x03, 0x00, 0x00, 0x00, 0x04, 0x00, 0x00, 0x00], .patMap 9 3 4)] = true := by
  decide +kernel

/-- R107: bits 23:20. -/
theorem test_decode_src_select :
    decodesAll [
      ([0x17, 0xFF, 0xFF, 0x5F, 0xFF], .srcMapSel 5)] = true := by
  decide +kernel

/-- R107: bits 19:16. -/
theorem test_decode_dst_select :
    decodesAll [
      ([0x18, 0xFF, 0xFF, 0xF6, 0xFF], .dstMapSel 6)] = true := by
  decide +kernel

/-- R109: bits 4:0, bits 7:5 set. -/
theorem test_decode_mixes :
    decodesAll [
      ([0x20, 0xE0, 0xF0, 0x00, 0x00, 0x00, 0x78, 0x56, 0x34, 0x12], .ropClear 0xF0 0x12345678),
      ([0x20, 0xE1, 0xF0, 0x00, 0x00, 0x00, 0x78, 0x56, 0x34, 0x12], .ropAnd 0xF0 0x12345678),
      ([0x20, 0xE2, 0xF0, 0x00, 0x00, 0x00, 0x78, 0x56, 0x34, 0x12], .ropAndNot 0xF0 0x12345678),
      ([0x20, 0xE3, 0xF0, 0x00, 0x00, 0x00, 0x78, 0x56, 0x34, 0x12], .ropSrc 0xF0 0x12345678),
      ([0x20, 0xE4, 0xF0, 0x00, 0x00, 0x00, 0x78, 0x56, 0x34, 0x12], .ropNotAnd 0xF0 0x12345678),
      ([0x20, 0xE5, 0xF0, 0x00, 0x00, 0x00, 0x78, 0x56, 0x34, 0x12], .ropNop 0xF0 0x12345678),
      ([0x20, 0xE6, 0xF0, 0x00, 0x00, 0x00, 0x78, 0x56, 0x34, 0x12], .ropXor 0xF0 0x12345678),
      ([0x20, 0xE7, 0xF0, 0x00, 0x00, 0x00, 0x78, 0x56, 0x34, 0x12], .ropOr 0xF0 0x12345678),
      ([0x20, 0xE8, 0xF0, 0x00, 0x00, 0x00, 0x78, 0x56, 0x34, 0x12], .ropNor 0xF0 0x12345678),
      ([0x20, 0xE9, 0xF0, 0x00, 0x00, 0x00, 0x78, 0x56, 0x34, 0x12], .ropXnor 0xF0 0x12345678),
      ([0x20, 0xEA, 0xF0, 0x00, 0x00, 0x00, 0x78, 0x56, 0x34, 0x12], .ropNotDest 0xF0 0x12345678),
      ([0x20, 0xEB, 0xF0, 0x00, 0x00, 0x00, 0x78, 0x56, 0x34, 0x12], .ropOrNot 0xF0 0x12345678),
      ([0x20, 0xEC, 0xF0, 0x00, 0x00, 0x00, 0x78, 0x56, 0x34, 0x12], .ropNotSrc 0xF0 0x12345678),
      ([0x20, 0xED, 0xF0, 0x00, 0x00, 0x00, 0x78, 0x56, 0x34, 0x12], .ropNotOrDest 0xF0 0x12345678),
      ([0x20, 0xEE, 0xF0, 0x00, 0x00, 0x00, 0x78, 0x56, 0x34, 0x12], .ropNand 0xF0 0x12345678),
      ([0x20, 0xEF, 0xF0, 0x00, 0x00, 0x00, 0x78, 0x56, 0x34, 0x12], .ropSet 0xF0 0x12345678),
      ([0x20, 0xF0, 0xF0, 0x00, 0x00, 0x00, 0x78, 0x56, 0x34, 0x12], .ropMax 0xF0 0x12345678),
      ([0x20, 0xF1, 0xF0, 0x00, 0x00, 0x00, 0x78, 0x56, 0x34, 0x12], .ropMin 0xF0 0x12345678),
      ([0x20, 0xF2, 0xF0, 0x00, 0x00, 0x00, 0x78, 0x56, 0x34, 0x12], .ropAddSat 0xF0 0x12345678),
      ([0x20, 0xF3, 0xF0, 0x00, 0x00, 0x00, 0x78, 0x56, 0x34, 0x12], .ropSubSatDs 0xF0 0x12345678),
      ([0x20, 0xF4, 0xF0, 0x00, 0x00, 0x00, 0x78, 0x56, 0x34, 0x12], .ropSubSatSd 0xF0 0x12345678),
      ([0x20, 0xF5, 0xF0, 0x00, 0x00, 0x00, 0x78, 0x56, 0x34, 0x12], .ropAvg 0xF0 0x12345678),
      ([0x20, 0xF6, 0xF0, 0x00, 0x00, 0x00, 0x78, 0x56, 0x34, 0x12], .ropMixUndef16 0xF0 0x12345678),
      ([0x20, 0xF7, 0xF0, 0x00, 0x00, 0x00, 0x78, 0x56, 0x34, 0x12], .ropMixUndef17 0xF0 0x12345678),
      ([0x20, 0xF8, 0xF0, 0x00, 0x00, 0x00, 0x78, 0x56, 0x34, 0x12], .ropMixUndef18 0xF0 0x12345678),
      ([0x20, 0xF9, 0xF0, 0x00, 0x00, 0x00, 0x78, 0x56, 0x34, 0x12], .ropMixUndef19 0xF0 0x12345678),
      ([0x20, 0xFA, 0xF0, 0x00, 0x00, 0x00, 0x78, 0x56, 0x34, 0x12], .ropMixUndef1a 0xF0 0x12345678),
      ([0x20, 0xFB, 0xF0, 0x00, 0x00, 0x00, 0x78, 0x56, 0x34, 0x12], .ropMixUndef1b 0xF0 0x12345678),
      ([0x20, 0xFC, 0xF0, 0x00, 0x00, 0x00, 0x78, 0x56, 0x34, 0x12], .ropMixUndef1c 0xF0 0x12345678),
      ([0x20, 0xFD, 0xF0, 0x00, 0x00, 0x00, 0x78, 0x56, 0x34, 0x12], .ropMixUndef1d 0xF0 0x12345678),
      ([0x20, 0xFE, 0xF0, 0x00, 0x00, 0x00, 0x78, 0x56, 0x34, 0x12], .ropMixUndef1e 0xF0 0x12345678),
      ([0x20, 0xFF, 0xF0, 0x00, 0x00, 0x00, 0x78, 0x56, 0x34, 0x12], .ropMixUndef1f 0xF0 0x12345678)] = true := by
  decide +kernel

/-- R108: bits 2:0, the others set. -/
theorem test_decode_compares :
    decodesAll [
      ([0x21, 0xF8, 0x78, 0x56, 0x34, 0x12], .ccTrue 0x12345678),
      ([0x21, 0xF9, 0x78, 0x56, 0x34, 0x12], .ccGt 0x12345678),
      ([0x21, 0xFA, 0x78, 0x56, 0x34, 0x12], .ccEq 0x12345678),
      ([0x21, 0xFB, 0x78, 0x56, 0x34, 0x12], .ccLt 0x12345678),
      ([0x21, 0xFC, 0x78, 0x56, 0x34, 0x12], .ccX4 0x12345678),
      ([0x21, 0xFD, 0x78, 0x56, 0x34, 0x12], .ccGe 0x12345678),
      ([0x21, 0xFE, 0x78, 0x56, 0x34, 0x12], .ccNe 0x12345678),
      ([0x21, 0xFF, 0x78, 0x56, 0x34, 0x12], .ccLe 0x12345678)] = true := by
  decide +kernel

/-- R110, R118: bits 7:5, draw = 1, len = 10. -/
theorem test_decode_strokes :
    decodesAll [
      ([0x22, 0x1A], .strokeDir0 true 0xA),
      ([0x22, 0x3A], .strokeDir1 true 0xA),
      ([0x22, 0x5A], .strokeDir2 true 0xA),
      ([0x22, 0x7A], .strokeDir3 true 0xA),
      ([0x22, 0x9A], .strokeDir4 true 0xA),
      ([0x22, 0xBA], .strokeDir5 true 0xA),
      ([0x22, 0xDA], .strokeDir6 true 0xA),
      ([0x22, 0xFA], .strokeDir7 true 0xA)] = true := by
  decide +kernel

/-- R111: bits 2:0, the packed flag set. -/
theorem test_decode_formats :
    decodesAll [
      ([0x23, 0x08, 0x01, 0x02, 0x03, 0x00, 0x00, 0x00, 0xFF, 0xFF, 0xFF, 0xFF, 0x44, 0x33, 0x22, 0x11], .pf1 true
        (.write 2 3 0xFFFFFFFF 0x11223344)),
      ([0x23, 0x09, 0x01, 0x02, 0x03, 0x00, 0x00, 0x00, 0xFF, 0xFF, 0xFF, 0xFF, 0x44, 0x33, 0x22, 0x11], .pfRsvd1 true
        (.write 2 3 0xFFFFFFFF 0x11223344)),
      ([0x23, 0x0A, 0x01, 0x02, 0x03, 0x00, 0x00, 0x00, 0xFF, 0xFF, 0xFF, 0xFF, 0x44, 0x33, 0x22, 0x11], .pfRsvd2 true
        (.write 2 3 0xFFFFFFFF 0x11223344)),
      ([0x23, 0x0B, 0x01, 0x02, 0x03, 0x00, 0x00, 0x00, 0xFF, 0xFF, 0xFF, 0xFF, 0x44, 0x33, 0x22, 0x11], .pf8 true
        (.write 2 3 0xFFFFFFFF 0x11223344)),
      ([0x23, 0x0C, 0x01, 0x02, 0x03, 0x00, 0x00, 0x00, 0xFF, 0xFF, 0xFF, 0xFF, 0x44, 0x33, 0x22, 0x11], .pf16 true
        (.write 2 3 0xFFFFFFFF 0x11223344)),
      ([0x23, 0x0D, 0x01, 0x02, 0x03, 0x00, 0x00, 0x00, 0xFF, 0xFF, 0xFF, 0xFF, 0x44, 0x33, 0x22, 0x11], .pfRsvd5 true
        (.write 2 3 0xFFFFFFFF 0x11223344)),
      ([0x23, 0x0E, 0x01, 0x02, 0x03, 0x00, 0x00, 0x00, 0xFF, 0xFF, 0xFF, 0xFF, 0x44, 0x33, 0x22, 0x11], .pfRsvd6 true
        (.write 2 3 0xFFFFFFFF 0x11223344)),
      ([0x23, 0x0F, 0x01, 0x02, 0x03, 0x00, 0x00, 0x00, 0xFF, 0xFF, 0xFF, 0xFF, 0x44, 0x33, 0x22, 0x11], .pfRsvd7 true
        (.write 2 3 0xFFFFFFFF 0x11223344))] = true := by
  decide +kernel

/-- R252: the register's offset. -/
theorem test_decode_registers :
    decodesAll [
      ([0x30, 0x12, 0x01, 0x01, 0x34, 0x12, 0x00, 0x00], .accPxMapIdx (.write .b2 0x1234)),
      ([0x30, 0x14, 0x01, 0x01, 0x34, 0x12, 0x00, 0x00], .accMapBase (.write .b2 0x1234)),
      ([0x30, 0x18, 0x01, 0x01, 0x34, 0x12, 0x00, 0x00], .accMapWidth (.write .b2 0x1234)),
      ([0x30, 0x1A, 0x01, 0x01, 0x34, 0x12, 0x00, 0x00], .accMapHeight (.write .b2 0x1234)),
      ([0x30, 0x1C, 0x01, 0x01, 0x34, 0x12, 0x00, 0x00], .accMapFormat (.write .b2 0x1234)),
      ([0x30, 0x20, 0x01, 0x01, 0x34, 0x12, 0x00, 0x00], .accBresErrTerm (.write .b2 0x1234)),
      ([0x30, 0x24, 0x01, 0x01, 0x34, 0x12, 0x00, 0x00], .accBresK1 (.write .b2 0x1234)),
      ([0x30, 0x28, 0x01, 0x01, 0x34, 0x12, 0x00, 0x00], .accBresK2 (.write .b2 0x1234)),
      ([0x30, 0x2C, 0x01, 0x01, 0x34, 0x12, 0x00, 0x00], .accShortStroke (.write .b2 0x1234)),
      ([0x30, 0x48, 0x01, 0x01, 0x34, 0x12, 0x00, 0x00], .accFrgdMix (.write .b2 0x1234)),
      ([0x30, 0x49, 0x01, 0x01, 0x34, 0x12, 0x00, 0x00], .accBkgdMix (.write .b2 0x1234)),
      ([0x30, 0x4A, 0x01, 0x01, 0x34, 0x12, 0x00, 0x00], .accCcCond (.write .b2 0x1234)),
      ([0x30, 0x4C, 0x01, 0x01, 0x34, 0x12, 0x00, 0x00], .accColorCmp (.write .b2 0x1234)),
      ([0x30, 0x50, 0x01, 0x01, 0x34, 0x12, 0x00, 0x00], .accPlaneMask (.write .b2 0x1234)),
      ([0x30, 0x58, 0x01, 0x01, 0x34, 0x12, 0x00, 0x00], .accFrgdColor (.write .b2 0x1234)),
      ([0x30, 0x5C, 0x01, 0x01, 0x34, 0x12, 0x00, 0x00], .accBkgdColor (.write .b2 0x1234)),
      ([0x30, 0x60, 0x01, 0x01, 0x34, 0x12, 0x00, 0x00], .accBltWidth (.write .b2 0x1234)),
      ([0x30, 0x62, 0x01, 0x01, 0x34, 0x12, 0x00, 0x00], .accBltHeight (.write .b2 0x1234)),
      ([0x30, 0x6C, 0x01, 0x01, 0x34, 0x12, 0x00, 0x00], .accMaskMapOriginXOff (.write .b2 0x1234)),
      ([0x30, 0x6E, 0x01, 0x01, 0x34, 0x12, 0x00, 0x00], .accMaskMapOriginYOff (.write .b2 0x1234)),
      ([0x30, 0x70, 0x01, 0x01, 0x34, 0x12, 0x00, 0x00], .accSrcMapX (.write .b2 0x1234)),
      ([0x30, 0x72, 0x01, 0x01, 0x34, 0x12, 0x00, 0x00], .accSrcMapY (.write .b2 0x1234)),
      ([0x30, 0x74, 0x01, 0x01, 0x34, 0x12, 0x00, 0x00], .accPatMapX (.write .b2 0x1234)),
      ([0x30, 0x76, 0x01, 0x01, 0x34, 0x12, 0x00, 0x00], .accPatMapY (.write .b2 0x1234)),
      ([0x30, 0x78, 0x01, 0x01, 0x34, 0x12, 0x00, 0x00], .accDstMapX (.write .b2 0x1234)),
      ([0x30, 0x7A, 0x01, 0x01, 0x34, 0x12, 0x00, 0x00], .accDstMapY (.write .b2 0x1234)),
      ([0x30, 0x7C, 0x01, 0x01, 0x34, 0x12, 0x00, 0x00], .accCommand (.write .b2 0x1234))] = true := by
  decide +kernel

/-- R341: the port. -/
theorem test_decode_ports :
    decodesAll [
      ([0x31, 0x00, 0x01, 0x5A], .portOpMode (.write 0x5A)),
      ([0x31, 0x01, 0x01, 0x5A], .portApertureCntl (.write 0x5A)),
      ([0x31, 0x02, 0x01, 0x5A], .portNone2 (.write 0x5A)),
      ([0x31, 0x03, 0x01, 0x5A], .portNone3 (.write 0x5A)),
      ([0x31, 0x04, 0x01, 0x5A], .portPort4 (.write 0x5A)),
      ([0x31, 0x05, 0x01, 0x5A], .portNone5 (.write 0x5A)),
      ([0x31, 0x06, 0x01, 0x5A], .portNone6 (.write 0x5A)),
      ([0x31, 0x07, 0x01, 0x5A], .portNone7 (.write 0x5A)),
      ([0x31, 0x08, 0x01, 0x5A], .portApIdx (.write 0x5A)),
      ([0x31, 0x09, 0x01, 0x5A], .portAccessMode (.write 0x5A)),
      ([0x31, 0x0A, 0x01, 0x5A], .portRegIdx (.write 0x5A)),
      ([0x31, 0x0B, 0x01, 0x5A], .portDataB (.write 0x5A)),
      ([0x31, 0x0C, 0x01, 0x5A], .portDataC (.write 0x5A)),
      ([0x31, 0x0D, 0x01, 0x5A], .portDataD (.write 0x5A)),
      ([0x31, 0x0E, 0x01, 0x5A], .portDataE (.write 0x5A)),
      ([0x31, 0x0F, 0x01, 0x5A], .portDataF (.write 0x5A))] = true := by
  decide +kernel

/-- R343: the index. -/
theorem test_decode_sub_registers :
    decodesAll [
      ([0x32, 0x10, 0x01, 0x5A], .idx10 (.write 0x5A)),
      ([0x32, 0x11, 0x01, 0x5A], .idx11 (.write 0x5A)),
      ([0x32, 0x12, 0x01, 0x5A], .idx12 (.write 0x5A)),
      ([0x32, 0x13, 0x01, 0x5A], .idx13 (.write 0x5A)),
      ([0x32, 0x14, 0x01, 0x5A], .idx14 (.write 0x5A)),
      ([0x32, 0x15, 0x01, 0x5A], .idx15 (.write 0x5A)),
      ([0x32, 0x18, 0x01, 0x5A], .idx18 (.write 0x5A)),
      ([0x32, 0x19, 0x01, 0x5A], .idx19 (.write 0x5A)),
      ([0x32, 0x20, 0x01, 0x5A], .idx20 (.write 0x5A)),
      ([0x32, 0x21, 0x01, 0x5A], .idx21 (.write 0x5A)),
      ([0x32, 0x22, 0x01, 0x5A], .idx22 (.write 0x5A)),
      ([0x32, 0x23, 0x01, 0x5A], .idx23 (.write 0x5A)),
      ([0x32, 0x24, 0x01, 0x5A], .idx24 (.write 0x5A)),
      ([0x32, 0x25, 0x01, 0x5A], .idx25 (.write 0x5A)),
      ([0x32, 0x28, 0x01, 0x5A], .idx28 (.write 0x5A)),
      ([0x32, 0x29, 0x01, 0x5A], .idx29 (.write 0x5A)),
      ([0x32, 0x2C, 0x01, 0x5A], .idx2c (.write 0x5A)),
      ([0x32, 0x2D, 0x01, 0x5A], .idx2d (.write 0x5A)),
      ([0x32, 0x30, 0x01, 0x5A], .idx30 (.write 0x5A)),
      ([0x32, 0x31, 0x01, 0x5A], .idx31 (.write 0x5A)),
      ([0x32, 0x32, 0x01, 0x5A], .idx32 (.write 0x5A)),
      ([0x32, 0x33, 0x01, 0x5A], .idx33 (.write 0x5A)),
      ([0x32, 0x34, 0x01, 0x5A], .idx34 (.write 0x5A)),
      ([0x32, 0x35, 0x01, 0x5A], .idx35 (.write 0x5A)),
      ([0x32, 0x36, 0x01, 0x5A], .idx36 (.write 0x5A)),
      ([0x32, 0x38, 0x01, 0x5A], .idx38 (.write 0x5A)),
      ([0x32, 0x39, 0x01, 0x5A], .idx39 (.write 0x5A)),
      ([0x32, 0x3A, 0x01, 0x5A], .idx3a (.write 0x5A)),
      ([0x32, 0x3B, 0x01, 0x5A], .idx3b (.write 0x5A)),
      ([0x32, 0x3C, 0x01, 0x5A], .idx3c (.write 0x5A)),
      ([0x32, 0x3D, 0x01, 0x5A], .idx3d (.write 0x5A)),
      ([0x32, 0x40, 0x01, 0x5A], .idx40 (.write 0x5A)),
      ([0x32, 0x41, 0x01, 0x5A], .idx41 (.write 0x5A)),
      ([0x32, 0x42, 0x01, 0x5A], .idx42 (.write 0x5A)),
      ([0x32, 0x43, 0x01, 0x5A], .idx43 (.write 0x5A)),
      ([0x32, 0x44, 0x01, 0x5A], .idx44 (.write 0x5A)),
      ([0x32, 0x51, 0x01, 0x5A], .idx51 (.write 0x5A)),
      ([0x32, 0x54, 0x01, 0x5A], .idx54 (.write 0x5A)),
      ([0x32, 0x60, 0x01, 0x5A], .idx60 (.write 0x5A)),
      ([0x32, 0x61, 0x01, 0x5A], .idx61 (.write 0x5A)),
      ([0x32, 0x65, 0x01, 0x5A], .idx65 (.write 0x5A)),
      ([0x32, 0x6A, 0x01, 0x5A], .idx6a (.write 0x5A))] = true := by
  decide +kernel

/-- Bytes that are no event are rejected, each by its name: an offset outside the block, a length code, a value wider than its
length, a port outside the window, an unknown tag. -/
theorem test_decode_rejects :
    [decode [0x02, 0x80, 0x00], decode [0x02, 0x00, 0x03], decode [0x01, 0x00, 0x00, 0x00, 0x01, 0x00, 0x00],
      decode [0x06, 0x10], decode [0x7F], decode [0x32, 0x17, 0x00], decode []].map
      (fun r => match r with | .ok _ => none | .error e => some e) =
    [some (.offsetOutsideBlock 0x80), some (.badLength 3), some (.valueTooWide 0x100), some (.portOutsideWindow 0x10),
      some (.unknownFormat 0x7F), some (.noSubRegister 0x17), some .empty] := by
  decide +kernel

/-- Bare table words under the order of log 3: the command word of R267, octant 5, mix code 0x06, sub-register 0x65, the
stroke byte 0xE0. -/
theorem test_table_words :
    decodeTableWord 32 0x80118000 = some (.opBitblt 0x0118000) ∧ decodeTableWord 32 0x00000005 = some .oct5 ∧
    decodeTableWord 8 0x06 = some (.ropXor 0 0) ∧ decodeTableWord 8 0x65 = some (.idx65 .read) ∧
    decodeTableWord 8 0xE0 = some (.strokeDir7 false 0) := by
  decide +kernel

/-! ## One step on small states -/

/-- Whether an outcome is a next state with a property. -/
def nextWith (o : Host.Outcome State Fault Refusal) (p : State → Bool) : Bool :=
  match o with
  | .next t => p t
  | _ => false

/-- A device with 1 MiB of video memory, seven bytes of it written, page 0 marked. -/
def dev : State :=
  { State.created 0 0 HostConfig.default with
    vram := [(0, 0), (1, 0), (3, 0), (5, 0x20), (8, 0xF0), (9, 0x55), (4095, 0x01)], changedvram := [(0, 2)]
    spriteData := [(0, 0xE4), (1023, 7)]
    palette := [(7, { r := 1, g := 2, b := 3 })], legacyCrtc := [(0x11, 0x80)]
    mapping := .linear 0xE0000000 0x400000
    flags := { on := true, linearEndianReverse := false, cursorDataOn := true } }

/-- `dev` with a map 1 of a format and a width, at base 0. -/
def devMap (format : BitVec 4) (width : Half) : State :=
  dev.withAcc { dev.acc with
    maps := { dev.acc.maps with m1 := { base := 0, width := width, height := 16, format := format } }
    planeMask := 0xFFFFFFFF }

/-- R134's example: `vram[5] = 0x20`, width 16, pixel (10, 2) reads 1. -/
theorem test_read_pixel_1 : ((devMap 0 16).readPixel 1 10 2).1 = 1 := by decide +kernel

/-- R135's example, with the old byte at 0: the byte becomes 0x20. -/
theorem test_write_pixel_1 :
    ({ devMap 0 16 with vram := [(5, 0)] }.writePixel 1 10 2 1).vramAt 5 = 0x20 := by decide +kernel

/-- R136's example: base 0x1000, width 640, pixel (3, 2) lies at 0x1503. -/
theorem test_addr_8 :
    addr8 HostConfig.default { base := 0x1000, width := 640, height := 0, format := 3 } 3 2 = 0x1503 := by decide +kernel

/-- R137's example: width 4, pixel (1, 1), 0x1234 without swap: 0x34 at 10, 0x12 at 11. -/
theorem test_write_pixel_16 :
    (let t := (devMap 4 4).writePixel 1 1 1 0x1234; (t.vramAt 10, t.vramAt 11)) = (0x34, 0x12) := by
  decide +kernel

/-- R174's point on `ADD_SAT` and `AVG`: 0xAA + 0xAA clamps to 0xFF; the average of two full words is a full word. -/
theorem test_mix_arithmetic : ropAddSat 0xAA 0xAA = 0xFF ∧ ropAvg 0xFFFFFFFF 0xFFFFFFFF = 0xFFFFFFFF := by decide

/-- R188's worked example: destination 0xF0, XOR with 0x3C under plane mask 0x0F leaves 0xFC. -/
theorem test_pixel_step :
    (let s := (devMap 3 16).withAcc { (devMap 3 16).acc with frgdMix := 0x06, frgdColor := 0x3C, planeMask := 0x0F }
     (s.pixelStep { cmdFields Config.cmdLayout 0 with dstSel := 1, patSel := 8 }
       { sx := 0, sy := 0, dx := 8, dy := 0, mix := true, firstCol := true, firstRow := true }).vramAt 8) = 0xFC := by
  decide +kernel

/-- R253's example: `command = 0x11223344`, `WR1 0x7D, 0xAA` leaves 0x1122AA44. -/
theorem test_wr_lane :
    nextWith (exec (.wr 0x7D .b1 0xAA) (dev.setCommand 0x11223344)) (fun t => t.acc.command == 0x1122AA44) = true := by
  decide +kernel

/-- R252: `WR4 0x78` spans `dst_map_x` and `dst_map_y`. -/
theorem test_wr_spans :
    nextWith (exec (.wr 0x78 .b4 0x00020001) dev) (fun t => t.acc.dstMapX == 1 && t.acc.dstMapY == 2) = true := by
  decide +kernel

/-- R242's worked example, one stroke of it: 0x32 from (13, 10) ends at (15, 8). -/
theorem test_stroke :
    nextWith (exec (.strokeDir1 true 2) (dev.withAcc { dev.acc with dstMapX := 13, dstMapY := 10 }))
      (fun t => t.acc.dstMapX == 15 && t.acc.dstMapY == 8) = true := by
  decide +kernel

/-- R227's line: from (0, 0), `blt_width = 7`, terms 7, 14, 0: it ends at (7, 7). -/
theorem test_line_end :
    nextWith (exec (.opLineDraw 0x0018000)
        (dev.withAcc { dev.acc with bltWidth := 7, bresErrTerm := 7, bresK1 := 14, bresK2 := 0 }))
      (fun t => t.acc.dstMapX == 7 && t.acc.dstMapY == 7) = true := by
  decide +kernel

/-- R206: a 2 by 3 blit from (4, 5) downwards ends at (4, 8). -/
theorem test_blit_end :
    nextWith (exec (.opBitblt 0x0118000)
        (dev.withAcc { dev.acc with bltWidth := 1, bltHeight := 2, dstMapX := 4, dstMapY := 5 }))
      (fun t => t.acc.dstMapX == 4 && t.acc.dstMapY == 8) = true := by
  decide +kernel

/-- R343's example: `IDX 0x20, 0x34` then `IDX 0x21, 0x12` leaves `vtotal = 0x1234`. -/
theorem test_split_timing :
    nextWith (dev.execAll [.idx20 (.write 0x34), .idx21 (.write 0x12)]) (fun t => t.ext.crtc.vtotal == 0x1234) = true := by
  decide +kernel

/-- R346's example: `ap_idx = 2`, `APW1 BANKED_BASE + 0x1234, 0x5A` stores at 0x21234 and stamps page 0x21. -/
theorem test_banked_write :
    nextWith (dev.execAll [.out 0x1 0x01, .out 0x8 0x02, .apw 0xA1234 .b1 0x5A])
      (fun t => t.vramAt 0x21234 == 0x5A && t.dirty 0x21 == 2) = true := by
  decide +kernel

/-- R347's example: `APW2 0xE0000010, 0xBEEF` under a linear window at 0xE0000000. -/
theorem test_linear_write :
    nextWith (exec (.apw 0xE0000010 .b2 0xBEEF) dev)
      (fun t => t.vramAt 0x10 == 0xEF && t.vramAt 0x11 == 0xBE) = true := by
  decide +kernel

/-- R328's worked example: sprite byte 0xE4 at column 10, colours 0x111111 and 0x222222 over 0x00FF00. -/
theorem test_cursor_codes :
    (let s := (dev.withExt { dev.ext with hwcColor0 := 0x111111, hwcColor1 := 0x222222 })
     let s := ({ s with eff := { s.eff with hDisp := 14 } }.fbWrite 0 12 0x00FF00).fbWrite 0 13 0x00FF00
     let s := { s with
       raster := { s.raster with latch := { s.raster.latch with x := 10 } }
       fb := s.fb }
     let t := s.cursorDraw 0
     [Sparse.find (fbKey 0 10) t.fb, Sparse.find (fbKey 0 11) t.fb, Sparse.find (fbKey 0 12) t.fb,
       Sparse.find (fbKey 0 13) t.fb]) =
      [some 0x111111, some 0x222222, some 0x00FF00, some 0xFF00FF] := by
  decide +kernel

/-- R391: after attach, the first two ticks make `vc = 1`. -/
theorem test_first_tick_pair :
    nextWith (dev.execAll [.tick, .tick]) (fun t => t.raster.vc == 1 && !t.raster.dispon) = true := by
  decide +kernel

/-! ## Witnesses: states and operands that meet the hypotheses of the statements -/

/-- `dev`'s stores of data are canonical. -/
theorem test_dev_canonical : dev.memoriesCanonical := by
  unfold State.memoriesCanonical; decide +kernel

/-- `dev` with an inbox. -/
def devWith (e : HostEvent) : State := { dev with inbox := [e] }

/-- AttachMakesNewDevice, FailedAttachAndDetachLeaveNoDevice: each inbox; an attach that fails and the one after it, which
makes a device; an event of no device. -/
theorem test_witness_attach :
    let attach := HostEvent.attach (some [1]) 0 0 HostConfig.default
    let failing := HostEvent.attach none 0 0 HostConfig.default
    (devWith attach).inbox = attach :: [] ∧
    nextWith (step { dev with inbox := [failing, attach] }) (fun t =>
      !t.attached && decide (Output.attachFailure ∈ t.outputs) &&
        nextWith (step t) (fun u => u.attached && decide (u.cfg.rom = [1]))) = true ∧
    (devWith .detach).attached = true ∧ (devWith .detach).inbox = .detach :: [] ∧
    ({ devWith .detach with attached := false }).attached = false ∧ HostEvent.isAttach .detach = false := by
  decide +kernel

/-- StepRunsDecodedRow: an attached device, the tick's bytes with one byte after them; an empty inbox. -/
theorem test_witness_step_runs :
    (devWith (.row [0x0A, 0x01])).attached = true ∧ (devWith (.row [0x0A, 0x01])).inbox = .row [0x0A, 0x01] :: [] ∧
    (decode [0x0A, 0x01]).toOption = some (.tick, [0x01]) ∧ dev.inbox = [] := by
  decide +kernel

/-- DecodeEncodeAgree: well-formed rows at the ends of their ranges, and bytes that decode. -/
theorem test_witness_round_trip :
    Instr.wellFormed (.wr 0x7F .b1 0xFF) = true ∧ Instr.wellFormed (.mmr 0x17FF) = true ∧
    (decode [0x09, 0xFF, 0x17]).toOption = some (.mmr 0x17FF, []) := by
  decide +kernel

/-- NoOperationRaises: events that the host may deliver. -/
theorem test_witness_deliverable :
    (devWith (.row [0x0A])).attached = true ∧ HostEvent.deliverable dev (.row [0x0A]) = true ∧
    HostEvent.deliverable { dev with flags := { dev.flags with on := false } } (.legacyVramWrite 0 1) = true ∧
    HostEvent.deliverable dev (.attach none 0 0 HostConfig.default) = true := by
  decide +kernel

/-- StepKeepsMemoriesCanonical, StepKeepsMappingCurrent, StepKeepsCountersBounded: a device that meets all three, and a step
of it that answers a next state. -/
theorem test_witness_invariants :
    let s := { dev with mapping := .linear 0 0x400000, inbox := [.row [0x0A]] }
    s.memoriesCanonical ∧ s.mappingCurrent ∧ s.countersBounded ∧ nextWith (step s) (fun _ => true) = true := by
  refine ⟨test_dev_canonical, fun _ => ⟨rfl, fun h => ?_⟩, ⟨Or.inl rfl, by decide, ?_, by decide⟩, by decide +kernel⟩
  · revert h; decide
  · intro p
    show ((Sparse.find p [(0, 2#8)]).getD Counters.unlisted).toNat ≤ 3
    simp only [Sparse.find]
    split <;> decide

/-- EveryChangedByteIsStamped, OnlyTicksMoveRaster, TickFrame: a write that changes a byte, a recalculating write, a tick. -/
theorem test_witness_rows :
    dev.memoriesCanonical ∧
    nextWith (exec (.apw 0xE0000000 .b1 1) dev) (fun t => t.vramAt 0 != dev.vramAt 0) = true ∧
    nextWith (exec (.portOpMode (.write 1)) dev) (fun _ => true) = true ∧ Instr.portOpMode (.write 1) ≠ .tick ∧
    nextWith (exec .tick dev) (fun _ => true) = true := by
  exact ⟨test_dev_canonical, by decide +kernel, by decide +kernel, by decide +kernel, by decide +kernel⟩

/-- OnlyDataRegistersWriteTables: writes that change the palette and the sprite buffer, directly and through a data port;
under a map that puts the palette at index 0x10, a write of that index's row does. -/
theorem test_witness_tables :
    let due := dev.withExt { dev.ext with dacSeq := .blue, dacR := 9, regIdx := 0x65 }
    let sprite := dev.withExt { dev.ext with regIdx := 0x6A }
    nextWith (exec (.idx65 (.write 4)) due) (fun t => decide (t.palette ≠ due.palette)) = true ∧
    nextWith (exec (.out 0xB 4) due) (fun t => decide (t.palette ≠ due.palette)) = true ∧
    nextWith (exec (.portDataF (.write 4)) sprite) (fun t => decide (t.spriteData ≠ sprite.spriteData)) = true ∧
    (let map : ExtRegMap := { ports := [], subs := [⟨0x10, .paletteData, 0, false⟩] }
     let moved := { due with cfg := { due.cfg with extRegMap := map } }
     nextWith (exec (.idx10 (.write 4)) moved) (fun t => decide (t.palette ≠ moved.palette)) = true) := by
  decide +kernel

/-- WriteMergesLanesThenTriggers, MergedBytesReadBack, ReadsAnswerStoredBytes, SplitCommandWriteTriggersOnce,
ShortStrokeWriteWalksUnderOpcodeFour: the default map and layout; rows at their offsets; writes that end just below, at and
past a triggering byte; an offset without a register; the command register with each opcode that acts, opcodes 5 and 8 under
a layout that puts the opcode into the low nibble too; a row of a direction. -/
theorem test_witness_offsets :
    (dev.cfg.accelRegMap = Config.accelRegMap ∧ dev.cfg.cmdLayout = Config.cmdLayout) ∧
    ((.command, Instr.accCommand) ∈ regRows ∧ offsetOf dev.cfg.accelRegMap .command = (0x7C#7).toNat ∧
      0x80 ≤ offsetOf [] .command) ∧
    ((∃ k < Len.b4.bytes, accLane dev.cfg.accelRegMap (0x7C + k) = some (.command, 3)) ∧
      ¬ ∃ k < Len.b2.bytes, accLane dev.cfg.accelRegMap (0x7D + k) = some (.command, 3)) ∧
    ((∃ k < Len.b4.bytes, accLane dev.cfg.accelRegMap (0x2C + k) = some (.shortStroke, 3)) ∧
      ¬ ∃ k < Len.b2.bytes, accLane dev.cfg.accelRegMap (0x2D + k) = some (.shortStroke, 3)) ∧
    ((0x0F#7).toNat ≤ 0x12 ∧ 0x12 < (0x0F#7).toNat + Len.b4.bytes ∧ ¬ (0x13#7).toNat ≤ 0x12) ∧
    (accLane dev.cfg.accelRegMap 0x11 = none ∧ accLane dev.cfg.accelRegMap 0x7F = some (.command, 3)) ∧
    ({ dev with cfg := { dev.cfg with op4OnStepsWrite := true } }.setCommand 0x40000000).cmd.opcode = 4 ∧
    ((dev.setCommand 0x50000000).cmd.opcode = 5 ∧ (dev.setCommand 0x80000000).cmd.opcode = 8) ∧
    (let moved := { dev with cfg := { dev.cfg with cmdLayout := { Config.cmdLayout with opcode := 0 } } }
     (moved.setCommand 0x40000005).cmd.opcode = 5 ∧ (moved.setCommand 0x40000008).cmd.opcode = 8) ∧
    (0, Instr.strokeDir0, 1, 0) ∈ strokeRows := by
  refine ⟨⟨rfl, rfl⟩, ⟨?_, by decide +kernel⟩, ?_⟩
  · simp only [regRows, List.mem_cons, true_or, or_true]
  · decide +kernel

/-- RegistersWriteAndReadWhole, SubRegistersWriteAndRead, SplitTimingWritesRecalculateOnce, MixRowsAnswerTheirCode,
QuietOpcodesChangeNothing, PortWritesStoreAndAct, PortReadsAnswerStoredByte, StrokesMoveAlongTheirDirection: each list of
rows has a member. -/
theorem test_witness_members :
    accFields ≠ [] ∧ subFields ≠ [] ∧ splitFields ≠ [] ∧ (0x1F, Instr.ropMixUndef1f) ∈ mixRows ∧
    (0xF, Instr.opRsvdF) ∈ quietRows ∧ (.data, Instr.portDataF) ∈ fieldRows ∧ (7, Instr.strokeDir7, 1, 1) ∈ strokeRows ∧
    (dev.setCommand 0xF0000000).cmd.opcode = 0xF ∧ dev.cfg.extRegMap = Config.extRegMap := by
  refine ⟨by simp [accFields], by simp [subFields], by simp [splitFields], ?_, ?_, ?_, ?_, by decide, rfl⟩
  · simp only [mixRows, List.mem_cons, true_or, or_true]
  · simp only [quietRows, List.mem_cons, true_or, or_true]
  · simp only [fieldRows, List.mem_cons, true_or, or_true]
  · simp only [strokeRows, List.mem_cons, true_or, or_true]

/-- PortWritesStoreAndAct, PortReadsAnswerStoredByte, SubRegistersWriteAndRead: a register index with an entry and one
without; a port with a field and one without; a map without the entry of a row. -/
theorem test_witness_register_index :
    (∃ r ∈ subRows, r.1 = (dev.withExt { dev.ext with regIdx := 0x10 }).ext.regIdx) ∧
    subEntry dev.cfg.extRegMap (dev.withExt { dev.ext with regIdx := 0x16 }).ext.regIdx.toNat = none ∧
    portField dev.cfg.extRegMap 0xB = some .data ∧ portField dev.cfg.extRegMap 0x2 = none ∧
    subEntry { ports := [], subs := [] } (0x10#8).toNat = none := by
  refine ⟨⟨(0x10, .idx10), by simp only [subRows, List.mem_cons, true_or], rfl⟩, ?_⟩
  decide +kernel

/-- RecalculationCopiesTable: a device under the free function, and one under the reference instantiation. -/
theorem test_witness_recalc :
    dev.cfg.recalc = .free ∧ ({ dev with cfg := { dev.cfg with recalc := .identity } }).cfg.recalc = .identity :=
  ⟨rfl, rfl⟩

/-- PaletteLoadCommitsTriples, SpriteLoadStoresSuccessiveBytes, VramWriteStoresAndStamps, PixelWriteFrame, ThresholdActions:
canonical stores, and loads of the longest length. -/
theorem test_witness_loads :
    dev.memoriesCanonical ∧ (List.replicate 256 (Rgb.mk 1 2 3)).length ≤ 256 ∧
    (List.replicate 1024 (0#8)).length ≤ 1024 := by
  exact ⟨test_dev_canonical, by rw [List.length_replicate], by rw [List.length_replicate]⟩

/-- HostSettingsTakeEffect: an attached device and the legacy write's two cases. -/
theorem test_witness_host_settings :
    (devWith (.setOn false)).attached = true ∧ (devWith (.legacyVramWrite 4 1)).flags.on = true ∧
    ({ devWith (.legacyVramWrite 4 1) with flags := { dev.flags with on := false } }).flags.on = false := by
  decide

/-- MappedWindowDispatches: the offsets at which its clauses meet; an image that lists byte 0 and not byte 1. -/
theorem test_witness_window :
    (devWith (.windowRead 0x1FFF .b4)).attached = true ∧
    (0x17FC#13).toNat + Len.b4.bytes ≤ 0x1800 ∧ 0x1880 ≤ (0x1880#13).toNat ∧
    (0x1800#13).toNat = 0x1800 + (0#7).toNat ∧ (0x187F#13).toNat = 0x1800 + (0x7F#7).toNat ∧
    (3 < Len.b4.bytes ∧ (0x17FD#13).toNat + 3 = 0x1800) ∧ (0x17FF#13).toNat < 0x1800 ∧
    (let u := { dev with cfg := { dev.cfg with rom := [0x55] } }
     (0 < u.cfg.rom.length ∧ u.romByte 0 = 0x55) ∧ ¬ 1 < u.cfg.rom.length) := by
  decide

/-- VramWriteStoresAndStamps: a write of two bytes across the end of page 0 stamps pages 0 and 1, and not page 2. -/
theorem test_witness_vram_write :
    (∃ i, 4095 ≤ i ∧ i < 4095 + [1#8, 2#8].length ∧ i < HostConfig.vramSize dev.cfg ∧ i / 4096 = 1) ∧
    (∀ i, 4095 ≤ i → i < 4095 + [1#8, 2#8].length → i < HostConfig.vramSize dev.cfg → i / 4096 ≠ 2) := by
  refine ⟨⟨4096, by decide, by decide, by decide +kernel, by decide⟩, ?_⟩
  intro i h1 h2 _ h4
  simp only [List.length_cons, List.length_nil] at h2
  omega

/-- AcceleratorReachesWindowOrSystem: the first and the last address of the window, and the first beyond it. -/
theorem test_witness_accelerator :
    4 ∈ [1, 2, 4] ∧ dev.cfg.accelWindowMiB.toNat * 0x100000 ≤ (0#32).toNat ∧
    (0x000FFFFF#32).toNat < dev.cfg.accelWindowMiB.toNat * 0x100000 + 0x100000 ∧
    dev.cfg.accelWindowMiB.toNat * 0x100000 + 0x100000 ≤ (0x00100000#32).toNat ∧
    (0#32).toNat < ({ dev.cfg with accelWindowMiB := 1 }).accelWindowMiB.toNat * 0x100000 := by
  decide +kernel

/-- ApertureAccessGoesToVideoMemory, ApertureWriteReadsBack: the last access inside each window, and no window. -/
theorem test_witness_apertures :
    (({ dev with mapping := .banked 0xA0000 }).mapping = .banked 0xA0000 ∧ (0xA0000#32).toNat ≤ (0xAFFFC#32).toNat ∧
      (0xAFFFC#32).toNat + Len.b4.bytes ≤ (0xA0000#32).toNat + 0x10000) ∧
    (dev.memoriesCanonical ∧ dev.mapping = .linear 0xE0000000 0x400000 ∧
      (0xE0000000#32).toNat ≤ (0xE00FFFFC#32).toNat ∧
      (0xE00FFFFC#32).toNat + Len.b4.bytes ≤ (0xE0000000#32).toNat + 0x400000 ∧
      (0xE00FFFFC#32).toNat + Len.b4.bytes ≤ (0xE0000000#32).toNat + HostConfig.vramSize dev.cfg) ∧
    ({ dev with mapping := .unmapped }).mapping = .unmapped := by
  exact ⟨by decide, ⟨test_dev_canonical, by decide, by decide, by decide, by decide +kernel⟩, by decide⟩

/-- PixelWriteFrame, PixelWriteReadsBack, NopAndUndefinedMixesKeepDestination: pixels of each depth inside the window and
inside video memory, the last one at its very end; a byte and a bit outside a 1-bit pixel. -/
theorem test_witness_pixels :
    (devMap 0 16).memoriesCanonical ∧ depthOf ((devMap 0 16).mapDesc 1).format = .one ∧
    0 ≠ (devMap 0 16).bitpos ((devMap 0 16).mapDesc 1) 10 ∧
    pixelAt dev.cfg ((devMap 0 16).mapDesc 1) 10 2 = some (5, 1) ∧ (devMap 0 16).inWindow 5 = true ∧
    pixelAt dev.cfg ((devMap 3 16).mapDesc 1) 0xFFFFF 0 = some (0xFFFFF, 1) ∧
    pixelAt dev.cfg ((devMap 4 16).mapDesc 1) 0x7FFFF 0 = some (0xFFFFE, 2) ∧ dev.inWindow 0xFFFFE = true ∧
    (0xFFFFE#32).toNat - HostConfig.windowBase dev.cfg + 2 ≤ HostConfig.vramSize dev.cfg := by
  refine ⟨test_dev_canonical, ?_⟩
  decide +kernel

/-- PixelRowsReachTheirBytes: maps of each depth code, of a reserved one, and of each packed flag. -/
theorem test_witness_formats :
    [0, 3, 4, 7, 8].map (fun f => ((devMap f 16).mapDesc 1).format) = [0x0#4, 0x3, 0x4, 0x7, 0x8] ∧
    ((0x3#4).extractLsb' 0 3 = 3 ∧ (0x3#4).getLsbD 3 = false) ∧ ((0x8#4).extractLsb' 0 3 = 0 ∧ (0x8#4).getLsbD 3 = true) ∧
    (0x4#4).extractLsb' 0 3 = 4 ∧ ((0x7#4).extractLsb' 0 3 ≠ 0 ∧ (0x7#4).extractLsb' 0 3 ≠ 3 ∧ (0x7#4).extractLsb' 0 3 ≠ 4) := by
  decide +kernel

/-- PixelWriteFrame: byte 5 is a byte of pixel (10, 2), byte 6 is none, and the pixel has no byte in page 1. -/
theorem test_witness_other_byte :
    (devMap 0 16).pixelByte ((devMap 0 16).mapDesc 1) 10 2 5 ∧
    ∀ b, 5 < b → ¬ (devMap 0 16).pixelByte ((devMap 0 16).mapDesc 1) 10 2 b := by
  refine ⟨⟨5, 1, by decide +kernel⟩, fun b hb => ?_⟩
  rintro ⟨a, n, h, -, -, h1, -⟩
  have h5 : pixelAt (devMap 0 16).cfg ((devMap 0 16).mapDesc 1) 10 2 = some (5, 1) := by decide +kernel
  rw [h5] at h
  cases h
  have hw : HostConfig.windowBase (devMap 0 16).cfg = 0 := by decide +kernel
  rw [hw] at h1
  rw [show BitVec.toNat (5 : Word) = 5 from rfl] at h1
  omega

/-- NopAndUndefinedMixesKeepDestination: the codes at the ends, and registers that hold them. -/
theorem test_witness_undefined_mixes :
    ((0x05#5) = 0x05 ∨ 0x16 ≤ (0x05#5).toNat) ∧ 0x16 ≤ (0x16#5).toNat ∧ 0x16 ≤ (0x1F#5).toNat ∧
    (0xF6#8).toNat % 32 = (0x16#5).toNat ∧ (0x05#8).toNat % 32 = (0x05#5).toNat := by
  decide

/-- PixelStepStages: steps that the draw mode, the clip and the gate stop, and one that goes through; source selects of
the map and of the colour, on both paths. -/
theorem test_witness_pixel_step :
    let f : CmdFields := { cmdFields Config.cmdLayout 0 with dstSel := 1 }
    let s := devMap 3 16
    let s4 := s.withAcc { s.acc with ccCond := 2, colorCmp := 1 }
    (f.drawMode = 0 ∧ f.maskMode = 0) ∧ ({ f with drawMode := 1 }).drawMode = 1 ∧
    (({ f with maskMode := 3 }).maskMode ≠ 0 ∧ s.inClip 0 0 = false) ∧
    ((s4.readPixel 1 8 0).2.ccPass s4.acc.ccCond (s4.readPixel 1 8 0).1 = false) ∧
    ((s.readPixel 1 8 0).2.ccPass s.acc.ccCond (s.readPixel 1 8 0).1 = true) ∧
    (({ f with fgSrc := 2 }).fgSrc = 2 ∧ f.fgSrc ≠ 2 ∧ ({ f with bgSrc := 2 }).bgSrc = 2 ∧ f.bgSrc ≠ 2) := by
  decide +kernel

/-- SolidFillColoursItsRectangle: a fill of map 1, and a byte that it hits. -/
theorem test_witness_fill :
    let s := (devMap 3 16).withAcc { (devMap 3 16).acc with frgdMix := 3, frgdColor := 0xAB, bltWidth := 1 }
    let c := s.withAcc { s.acc with command := commandWord s.cfg.cmdLayout 0x8 0x0118000#28 }
    s.memoriesCanonical ∧ c.cmd.patSel = 8 ∧ c.cmd.fgSrc ≠ 2 ∧ c.cmd.maskMode = 0 ∧ c.cmd.drawMode = 0 ∧
    s.acc.ccCond = 0 ∧ s.acc.frgdMix.toNat % 32 = 3 ∧ s.acc.planeMask.toNat % 256 = 255 ∧
    depthOf (s.mapDesc (BitVec.ofNat 2 (c.cmd.dstSel.toNat % 4))).format = .eight ∧
    nextWith (exec (.opBitblt 0x0118000) s) (fun t => t.vramAt 1 == 0xAB) = true := by
  refine ⟨test_dev_canonical, ?_⟩
  decide +kernel

/-- PrimitivesWriteOnlyClippedPixels: blits, with the clip off and on, a line, a stroke and a short-stroke word that change a
byte; StrokesMoveAlongTheirDirection: a stroke with its gate set. -/
theorem test_witness_clip :
    let a := { (devMap 3 16).acc with frgdMix := 3, frgdColor := 0xAB, bltWidth := 1,
                                       bresErrTerm := 0x3FFF, command := 0x80118000 }
    let s := (devMap 3 16).withAcc a
    let u := (devMap 3 16).withAcc { a with
      command := 0x80118040, maps := { a.maps with m0 := { base := 0, width := 1, height := 1, format := 0 } } }
    s.bitBlt.vramAt 1 ≠ s.vramAt 1 ∧ u.cmd.maskMode ≠ 0 ∧
    u.bitBlt.vramAt 0 ≠ u.vramAt 0 ∧ u.bitBlt.vramAt 1 = u.vramAt 1 ∧
    s.lineDraw.vramAt 1 ≠ s.vramAt 1 ∧ (s.stroke 0 true 1).vramAt 1 ≠ s.vramAt 1 ∧
    (s.withAcc { s.acc with shortStroke := 0x00001001 }).shortStrokes.vramAt 1 ≠ s.vramAt 1 := by
  decide +kernel

/-- MidpointLineIsNearest: the terms of a line of extents 7 and 7, and of 7 and 3. -/
theorem test_witness_midpoint :
    let p : LineParams := { f := cmdFields Config.cmdLayout 0, xdir := 1, ydir := 1, ymajor := false, k1 := 14, k2 := 0 }
    (7 ≤ 7 ∧ p.k1 = 2 * ((7 : Nat) : Int) ∧ p.k2 = 2 * (((7 : Nat) : Int) - (7 : Nat))) ∧
    (3 ≤ 7 ∧ ({ p with k1 := 6, k2 := -8 }).k2 = 2 * (((3 : Nat) : Int) - (7 : Nat))) := by
  decide

/-- UndisplayedActiveLineCounts: off; a quiet line; the first and the second field's trigger. -/
theorem test_witness_active_line :
    let r := dev.raster
    ({ dev with flags := { dev.flags with on := false } }).flags.on = false ∧
    (dev.flags.on = true ∧ r.linepos = false ∧ r.dispon = false ∧ r.latch.ena = false) ∧
    (let l := { r.latch with ena := true }; l.ena = true ∧ (r.displine.toNat : Int) = sext16 l.y) ∧
    (let e := { dev with
        eff := { dev.eff with interlace := true }
        raster := { r with displine := 1, latch := { r.latch with ena := true } } }
     e.raster.latch.ena = true ∧ e.eff.interlace = true ∧
       (e.raster.displine.toNat : Int) = sext16 e.raster.latch.y + 1) := by
  decide

/-- `dev` on a displayed line, with the cursor enabled and latched at line 3. -/
def devShown (displine : Half) : State :=
  { dev with
    raster := { dev.raster with
      dispon := true, displine := displine, latch := { dev.raster.latch with y := 3, ena := true } } }

/-- ActiveLineRendersPixels, CursorLineIsMarkedAndDrawn, CursorCompositesSpriteRow, BlankLineRunsThresholdsInOrder: lines of a
frame with an enabled cursor, before its trigger line, the trigger line, and a line under the cursor; the gate open and
shut; a covered and an uncovered column; a blank line. -/
theorem test_witness_displayed_line :
    let before := devShown 2
    let trigger := devShown 3
    let under := { devShown 4 with raster := { (devShown 4).raster with hwcursorOn := 63 } }
    let shut := { before with changedvram := [] }
    (before.flags.on = true ∧ before.raster.linepos = false ∧ before.raster.dispon = true ∧
      before.cursorTrigger.raster.hwcursorOn = 0 ∧ before.dirty (before.raster.ma.toNat / 4096) ≠ 0) ∧
    (shut.dirty 0 = 0 ∧ shut.dirty 1 = 0 ∧ shut.raster.fullchange = 0) ∧
    (trigger.cursorTrigger.raster.hwcursorOn = 64 ∧ under.cursorTrigger.raster.hwcursorOn = 63 ∧
      trigger.raster.latch.ena = true ∧ trigger.raster.changeframecount ≠ 0) ∧
    ((0 : Int) ≤ (63 : Nat) - (sext16 dev.raster.latch.x - dev.raster.latch.xoff.toNat) ∧
      (63 : Nat) - (sext16 dev.raster.latch.x - dev.raster.latch.xoff.toNat) < 64 ∧
      ¬ ((64 : Nat) : Int) - (sext16 dev.raster.latch.x - dev.raster.latch.xoff.toNat) < 64) ∧
    ({ before.raster with linepos := true }).linepos = true := by
  decide +kernel

/-- R290, R291: the trigger line marks both of its pages and counts one row down from 64. -/
theorem test_trigger_line :
    nextWith (exec .tick (devShown 3)) (fun t =>
      t.raster.hwcursorOn == 63 && t.dirty 0 == 2 && t.dirty 1 == 2 && t.raster.latch.addr == 16) = true := by
  decide +kernel

/-- CursorCompositesSpriteRow: column 0 of a line 64 pixels wide is covered. CursorLineIsMarkedAndDrawn: its stores are
canonical, and so are those of `devShown`. ThresholdActions: no counter exceeds 2. -/
theorem test_witness_cursor_column :
    (dev.memoriesCanonical ∧ (devShown 3).memoriesCanonical) ∧ 0 < ({ dev.eff with hDisp := 64 }).hDisp ∧
    (∀ p, (dev.dirty p).toNat ≤ 2) := by
  refine ⟨⟨test_dev_canonical, test_dev_canonical⟩, by decide, ?_⟩
  intro p
  show ((Sparse.find p [(0, 2#8)]).getD Counters.unlisted).toNat ≤ 2
  simp only [Sparse.find]
  split <;> decide

end
end

section
/-! The step and the delivery of one event, case by case, and the statements of the spec's scope (R15, R78). -/

namespace Sys2Proof.Machine

/-! ## `step` and `State.deliver` -/

/-- Log 4: with nothing in the inbox no event occurs. -/
theorem step_of_inbox_nil {s : State} (hin : s.inbox = []) : step s = .next s := by
  simp only [step, hin]

theorem State.withoutHead_of_inbox_cons {s : State} {e : HostEvent} {rest : List HostEvent}
    (hin : s.inbox = e :: rest) : s.withoutHead = { s with inbox := rest } := by
  rw [State.withoutHead, hin, List.tail_cons]

/-- R15, R371: an event that may occur, because the device exists or the event makes one, is taken whole. -/
theorem step_of_inbox_cons {s : State} {e : HostEvent} {rest : List HostEvent} (hin : s.inbox = e :: rest)
    (hmay : (s.attached || HostEvent.isAttach e) = true) : step s = State.deliver { s with inbox := rest } e := by
  simp only [step, hin, hmay, if_true]
  rw [State.withoutHead_of_inbox_cons hin]

/-- R78: the bytes of a row are delivered as the row they decode to. -/
theorem State.deliver_row {s : State} {bytes after : List Byte} {i : Instr} (hdec : decode bytes = .ok (i, after)) :
    s.deliver (.row bytes) = exec i s := by
  simp only [State.deliver, hdec]

/-! ## The statements -/

/-- Settles O4: an attached device takes the event at the head of the inbox, and a row's event is delivered by `exec`. -/
theorem stepRunsDecodedRow : Obligations.StepRunsDecodedRow := by
  refine ⟨?row, fun s hin => step_of_inbox_nil hin⟩
  case row =>
    intro s bytes after rest i hatt hin hdec
    have hmay : (s.attached || HostEvent.isAttach (.row bytes)) = true := by rw [hatt, Bool.true_or]
    calc step s = State.deliver { s with inbox := rest } (.row bytes) := step_of_inbox_cons hin hmay
      _ = exec i { s with inbox := rest } := State.deliver_row hdec

end Sys2Proof.Machine
end

section
/-! What a port write and a delivered event can do, said once: `PortEffect` is the inversion of the extended ports and
sub-registers (R341 to R345), `EventEffect` that of one delivered event (R15, R78). -/

-- Theorem bodies in sequence: many waiting at once would each hold a thread of the compile.
set_option Elab.async false

namespace Sys2Proof.Machine

/-! ## The extended ports and sub-registers -/

/-- What the store of a sub-register's field can do (R343 to R345). -/
inductive SubStoreEffect (s : State) (f : SubField) : State → Prop where
  /-- Extended registers take values. -/
  | registers (e : Ext) : SubStoreEffect s f (s.withExt e)
  /-- The palette data register commits an entry (R344). -/
  | palette (hf : f = .paletteData) (k : Byte) (c : Rgb) (e : Ext) :
      SubStoreEffect s f { s with ext := e, palette := Memory.write s.palette k.toNat c }
  /-- The sprite data register stores a byte (R345). -/
  | sprite (hf : f = .spriteData) (k : BitVec 10) (v : Byte) (e : Ext) :
      SubStoreEffect s f { s with ext := e, spriteData := Memory.write s.spriteData k.toNat v }

theorem State.subStore_effect (s : State) (f : SubField) (lane : Nat) (v : Byte) :
    SubStoreEffect s f (s.subStore f lane v) := by
  cases f with
  | paletteData =>
    cases hseq : s.ext.dacSeq with
    | red => simp only [State.subStore, State.paletteWrite, hseq]; exact .registers _
    | green => simp only [State.subStore, State.paletteWrite, hseq]; exact .registers _
    | blue => simp only [State.subStore, State.paletteWrite, hseq]; exact .palette rfl _ _ _
  | spriteData => exact .sprite rfl _ _ _
  | _ => exact .registers _

/-- What a write through an extended port can do: `reached` is the field of the sub-register it reaches, if it reaches
one (R341, R343). -/
inductive PortEffect (s : State) (reached : Option SubField) : State → Prop where
  /-- Nothing is behind the port or the index. -/
  | ignored : PortEffect s reached s
  /-- A register of the port's own takes a value. -/
  | stores (e : Ext) : PortEffect s reached (s.withExt e)
  /-- The operating mode takes a value, and the timing is recalculated (R354, R283). -/
  | recalculates (e : Ext) : PortEffect s reached (s.withExt e).recalc
  /-- The aperture control takes a value, and the windows are mapped anew (R348). -/
  | remaps (e : Ext) : PortEffect s reached (s.withExt e).updateMapping
  /-- A sub-register is stored. -/
  | sub {f : SubField} {t : State} (hf : reached = some f) (h : SubStoreEffect s f t) : PortEffect s reached t
  /-- A sub-register is stored, and the timing is recalculated (R282, R283). -/
  | subRecalculates {f : SubField} {t : State} (hf : reached = some f) (h : SubStoreEffect s f t) :
      PortEffect s reached t.recalc

/-- The field of the sub-register behind an index, if the map has one (R343). -/
def State.subFieldAt (s : State) (k : Nat) : Option SubField := (subEntry s.cfg.extRegMap k).map SubEntry.field

theorem State.subWrite_effect (s : State) (k : Nat) (v : Byte) : PortEffect s (s.subFieldAt k) (s.subWrite k v) := by
  unfold State.subFieldAt State.subWrite
  cases subEntry s.cfg.extRegMap k with
  | none => exact .ignored
  | some entry =>
    have hstore := s.subStore_effect entry.field entry.lane v
    dsimp only
    split
    · exact .subRecalculates rfl hstore
    · exact .sub rfl hstore

/-- The sub-register field that a write through a port's field reaches: that of the register index, through a data port
(R341). -/
def State.subFieldVia (s : State) : PortField → Option SubField
  | .data => s.subFieldAt s.ext.regIdx.toNat
  | _ => none

theorem State.subFieldVia_eq_some {s : State} {g : PortField} {f : SubField} (h : s.subFieldVia g = some f) :
    g = .data ∧ s.subFieldAt s.ext.regIdx.toNat = some f := by
  cases g with
  | data => exact ⟨rfl, h⟩
  | _ => cases h

theorem State.portStore_effect (s : State) (g : PortField) (v : Byte) :
    PortEffect s (s.subFieldVia g) (s.portStore g v) := by
  cases g with
  | opMode => exact .recalculates _
  | apertureCntl => exact .remaps _
  | data => exact s.subWrite_effect _ v
  | _ => exact .stores _

theorem State.portWrite_effect (s : State) (p : BitVec 4) (v : Byte) :
    PortEffect s ((portField s.cfg.extRegMap p).bind s.subFieldVia) (s.portWrite p v) := by
  unfold State.portWrite
  cases portField s.cfg.extRegMap p with
  | none => exact .ignored
  | some g => exact s.portStore_effect g v

/-- A row has one next state: the one that `exec_effect` describes. -/
theorem RowEffect.of_exec {s t : State} {i : Instr} (h : exec i s = .next t) : RowEffect s i t := by
  obtain ⟨u, hu, heff⟩ := exec_effect i s
  rw [hu] at h
  cases h
  exact heff

/-! ## One delivered event -/

/-- What a delivered event can do when it leaves a next state. -/
inductive EventEffect (s : State) : State → Prop where
  /-- A row of the opcode table. -/
  | row {i : Instr} {t : State} (h : RowEffect s i t) : EventEffect s t
  /-- A read: a value is returned. -/
  | answers (v : Answer) : EventEffect s (s.respond v)
  /-- A write of the memory-mapped window (R349). -/
  | window {a : Accel} {t : State} (h : (s.withAcc a).drawsLaw t) : EventEffect s t
  /-- The host sets a flag (D32). -/
  | flags (f : HostFlags) : EventEffect s { s with flags := f }
  /-- The configuration interface moves a base, and the windows are mapped anew (R353). -/
  | bases (e : Ext) : EventEffect s (s.withExt e).updateMapping
  /-- The legacy layer writes video memory (R46). -/
  | legacyVram (a : Nat) (v : Byte) : EventEffect s (s.legacyWrite a v)
  /-- The guarded legacy CRTC file is written (R352). -/
  | legacyCrtc (k v : Byte) : EventEffect s (s.crtcWrite k v)
  /-- An attach, with a ROM image or without (R390). -/
  | attach (rom : Option (List Byte)) (lb b1 : Word) (cfg : HostConfig) :
      EventEffect s (s.attachDevice rom lb b1 cfg)
  /-- A detach (R382). -/
  | detach : EventEffect s s.detachDevice

theorem State.windowWrite_effect (s : State) (o : Nat) (bs : List Byte) : EventEffect s (s.windowWrite o bs) := by
  unfold State.windowWrite
  split
  · exact .window (s.drawsLaw_wrBytes _ _)
  · split
    · exact .window (s.drawsLaw_wrBytes _ _)
    · exact .window (a := s.acc) (State.drawsLaw_refl s)

theorem State.deliver_effect {s t : State} {e : HostEvent} (h : s.deliver e = .next t) : EventEffect s t := by
  cases e with
  | row bytes =>
    cases hdec : decode bytes with
    | ok r => simp only [State.deliver, hdec] at h; exact .row (.of_exec h)
    | error err => simp only [State.deliver, hdec] at h; cases h
  | legacyVramWrite a v =>
    cases hon : s.flags.on with
    | true => simp only [State.deliver, hon] at h; cases h
    | false => simp only [State.deliver, hon] at h; cases h; exact .legacyVram a v
  | windowRead off len => cases h; exact .answers _
  | windowWrite off len val => cases h; exact s.windowWrite_effect _ _
  | setOn v => cases h; exact .flags _
  | setLinearEndianReverse v => cases h; exact .flags _
  | setCursorDataOn v => cases h; exact .flags _
  | setLinearBase v => cases h; exact .bases _
  | setBaseAddr1mb v => cases h; exact .bases _
  | legacyCrtcWrite k v => cases h; exact .legacyCrtc k v
  | legacyCrtcRead k => cases h; exact .answers _
  | attach rom lb b1 cfg => cases h; exact .attach rom lb b1 cfg
  | detach => cases h; exact .detach

/-- A step that leaves a next state changes nothing, or takes one event off the inbox and has its effect. -/
theorem step_effect {s t : State} (h : step s = .next t) :
    t = s ∨ ∃ rest, EventEffect { s with inbox := rest } t := by
  cases hin : s.inbox with
  | nil => rw [step_of_inbox_nil hin] at h; cases h; exact .inl rfl
  | cons e rest =>
    cases hmay : s.attached || HostEvent.isAttach e with
    | true => rw [step_of_inbox_cons hin hmay] at h; exact .inr ⟨rest, State.deliver_effect h⟩
    | false => simp [step, hin, hmay] at h

end Sys2Proof.Machine
end

section
/-! The stores of data stay canonical (R21 to R25, R352). The tick is walked once, for any property that its elementary changes
keep. -/

-- Theorem bodies in sequence: many waiting at once would each hold a thread of the compile.
set_option Elab.async false

namespace Sys2Proof.Machine

/-! ## Properties that a tick keeps -/

/-- What every change of the raster state within a tick respects: the frame counter stays or becomes 2 or 3 (R298), the
force-redraw counter does not rise (R297), the cursor's row count does not rise above 64 (R290). -/
structure Raster.TickChange (r r' : Raster) : Prop where
  frame : r'.changeframecount = r.changeframecount ∨ r'.changeframecount = 2 ∨ r'.changeframecount = 3
  redraw : r'.fullchange.toNat ≤ r.fullchange.toNat
  rows : r'.hwcursorOn.toNat ≤ r.hwcursorOn.toNat ∨ r'.hwcursorOn.toNat ≤ 64

/-- A change of the raster state that touches no counter. -/
theorem Raster.TickChange.of_eq {r r' : Raster} (hframe : r'.changeframecount = r.changeframecount)
    (hredraw : r'.fullchange = r.fullchange) (hrows : r'.hwcursorOn = r.hwcursorOn) : r.TickChange r' :=
  ⟨.inl hframe, by rw [hredraw], .inl (by rw [hrows])⟩

/-- A change of the raster state that sets the cursor's row count. -/
theorem Raster.TickChange.of_rows {r r' : Raster}
    (hrows : r'.hwcursorOn.toNat ≤ r.hwcursorOn.toNat ∨ r'.hwcursorOn.toNat ≤ 64)
    (hframe : r'.changeframecount = r.changeframecount := by rfl)
    (hredraw : r'.fullchange = r.fullchange := by rfl) : r.TickChange r' :=
  ⟨.inl hframe, by rw [hredraw], hrows⟩

/-- The property is kept by each elementary change that a tick is made of. -/
structure State.TickStable (P : State → Prop) : Prop where
  raster : ∀ {s : State} {r : Raster}, P s → s.raster.TickChange r → P (s.withRaster r)
  emit : ∀ {s : State} (o : Output), P s → P (s.emit o)
  pixel : ∀ {s : State} (l : Half) (x v : Nat), P s → P (s.fbWrite l x v)
  stamp : ∀ {s : State} (p : Nat), P s → P (s.stampPage p)
  decay : ∀ {s : State}, P s → P { s with changedvram := s.changedvram.filterMap decayCell }

/-- What each step of a loop keeps, the loop keeps. -/
theorem State.foldl_keeps {P : State → Prop} {α : Type} {f : State → α → State}
    (hf : ∀ {t : State} (a : α), P t → P (f t a)) (l : List α) {s : State} (h : P s) : P (l.foldl f s) := by
  induction l generalizing s with
  | nil => exact h
  | cons a l ih => exact ih (hf a h)

/-- What an action keeps, the action at its threshold keeps. -/
theorem State.atThreshold_keeps {P : State → Prop} {act : State → State} (hact : ∀ {t : State}, P t → P (act t))
    (threshold : Nat) {s : State} (h : P s) : P (s.atThreshold threshold act) := by
  unfold State.atThreshold
  split
  · exact hact h
  · exact h

section
variable {P : State → Prop} (hP : State.TickStable P) {s : State}

namespace State.TickStable
include hP

/-- A change of the raster state that touches none of the counters. -/
theorem withRaster (h : P s) {r : Raster} (hframe : r.changeframecount = s.raster.changeframecount := by rfl)
    (hredraw : r.fullchange = s.raster.fullchange := by rfl) (hrows : r.hwcursorOn = s.raster.hwcursorOn := by rfl) :
    P (s.withRaster r) :=
  hP.raster h (.of_eq hframe hredraw hrows)

theorem cursorTriggerFirst (h : P s) : P s.cursorTriggerFirst := by
  unfold State.cursorTriggerFirst
  dsimp only
  split
  · refine hP.raster h (.of_rows (.inr ?_))
    simp only [BitVec.toNat_ofNat]
    omega
  · exact h

theorem cursorTriggerSecond (h : P s) : P s.cursorTriggerSecond := by
  unfold State.cursorTriggerSecond
  dsimp only
  split
  · refine hP.raster h (.of_rows (.inr ?_))
    simp only [BitVec.toNat_ofNat]
    omega
  · exact h

theorem cursorTrigger (h : P s) : P s.cursorTrigger := hP.cursorTriggerSecond (hP.cursorTriggerFirst h)

theorem markFirstLine (h : P s) : P s.markFirstLine := by
  unfold State.markFirstLine
  split
  · exact hP.emit _ (hP.withRaster h)
  · exact h

theorem stampCursorLine (h : P s) : P s.stampCursorLine := by
  unfold State.stampCursorLine
  split
  · exact hP.stamp _ (hP.stamp _ h)
  · exact h

theorem renderLine (h : P s) : P s.renderLine := by
  unfold State.renderLine
  split
  · have hmarked : P s.markDrawn := hP.withRaster h
    exact State.foldl_keeps (fun _ => hP.pixel _ _ _) _ hmarked
  · exact h

theorem cursorColumn (line : Half) (a i : Nat) (h : P s) : P (s.cursorColumn line a i) := by
  unfold State.cursorColumn
  dsimp only
  split
  · exact h
  · split
    · unfold State.cursorPixel
      split
      · exact hP.pixel _ _ _ h
      · exact hP.pixel _ _ _ h
      · exact h
      · exact hP.pixel _ _ _ h
    · exact h

theorem cursorColumns (line : Half) (h : P s) : P (s.cursorColumns line) :=
  State.foldl_keeps (fun i => hP.cursorColumn line s.raster.latch.addr.toNat i) _ h

theorem cursorAdvance (h : P s) : P s.cursorAdvance := hP.withRaster h

theorem cursorDraw (line : Half) (h : P s) : P (s.cursorDraw line) := hP.cursorAdvance (hP.cursorColumns line h)

/-- The cursor's row count goes down. -/
theorem lowerCursorRows {n : BitVec 7} (hn : n.toNat ≤ s.raster.hwcursorOn.toNat) (h : P s) :
    P (s.withRaster { s.raster with hwcursorOn := n }) :=
  hP.raster h (.of_rows (.inl hn))

theorem drawCursorLine (h : P s) : P s.drawCursorLine := by
  unfold State.drawCursorLine
  split
  · refine hP.lowerCursorRows ?_ (hP.cursorDraw _ h)
    rw [State.cursorDraw_raster, BitVec.toNat_ofNat]
    exact (Nat.mod_le _ _).trans (Nat.sub_le _ _)
  · exact h

theorem markLastLine (h : P s) : P s.markLastLine := by
  unfold State.markLastLine
  split
  · exact hP.withRaster h
  · exact h

theorem displayLine (h : P s) : P s.displayLine := by
  have hrendered : P s.markFirstLine.stampCursorLine.renderLine :=
    hP.renderLine (hP.stampCursorLine (hP.markFirstLine h))
  have hadvanced : P s.markFirstLine.stampCursorLine.renderLine.advanceMa := hP.withRaster hrendered
  exact hP.markLastLine (hP.drawCursorLine hadvanced)

theorem displayIfOn (h : P s) : P s.displayIfOn := by
  unfold State.displayIfOn
  split
  · exact hP.displayLine h
  · exact h

theorem enterActiveLine (h : P s) : P s.enterActiveLine := by
  have hentered : P (s.cursorTrigger.setLinepos true) := hP.withRaster (hP.cursorTrigger h)
  exact hP.withRaster (hP.displayIfOn hentered)

theorem advanceRow (h : P s) : P s.advanceRow := by
  unfold State.advanceRow
  dsimp only
  split
  · split
    · exact hP.withRaster h
    · exact hP.withRaster h
  · exact h

theorem atSplit (h : P s) : P s.atSplit := hP.withRaster h

theorem atDisplayEnd (h : P s) : P s.atDisplayEnd :=
  hP.raster (hP.decay h) ⟨.inl rfl, decayCounter_le s.raster.fullchange, .inl (Nat.le_refl _)⟩

theorem atVsync (h : P s) : P s.atVsync := by
  refine hP.raster (hP.emit _ h) ⟨.inr ?_, Nat.le_refl _, .inl (Nat.le_refl _)⟩
  dsimp only
  split
  · exact .inr rfl
  · exact .inl rfl

theorem atTotal (h : P s) : P s.atTotal := hP.raster h (.of_rows (.inr (Nat.zero_le _)))

theorem testSplit (h : P s) : P s.testSplit := State.atThreshold_keeps (P := P) hP.atSplit _ h

theorem testDisplayEnd (h : P s) : P s.testDisplayEnd := State.atThreshold_keeps (P := P) hP.atDisplayEnd _ h

theorem testVsync (h : P s) : P s.testVsync := State.atThreshold_keeps (P := P) hP.atVsync _ h

theorem testTotal (h : P s) : P s.testTotal := State.atThreshold_keeps (P := P) hP.atTotal _ h

theorem enterBlankLine (h : P s) : P s.enterBlankLine := by
  have hrow : P (s.setLinepos false).advanceRow := hP.advanceRow (hP.withRaster h)
  have hcounted : P (s.setLinepos false).advanceRow.advanceVc := hP.withRaster hrow
  exact hP.testTotal (hP.testVsync (hP.testDisplayEnd (hP.testSplit hcounted)))

/-- A tick keeps what its elementary changes keep (R285). -/
theorem tick (h : P s) : P s.tick := by
  unfold State.tick
  split
  · split
    · exact hP.enterBlankLine h
    · exact hP.enterActiveLine h
  · exact h

end State.TickStable
end

/-! ## Canonical stores -/

theorem Counters.decay_wf {m : List Host.Cell} (h : Counters.wf m = true) :
    Counters.wf (m.filterMap decayCell) = true := by
  obtain ⟨hrising, -⟩ := (Counters.wf_iff m).1 h
  refine (Counters.wf_iff _).2 ⟨Sparse.filterMap_risingFrom (fun _ _ => decayCell_fst) hrising, fun d hd => ?_⟩
  obtain ⟨c, -, hc⟩ := List.mem_filterMap.1 hd
  unfold decayCell at hc
  split at hc
  · cases hc
  · next hne => cases hc; exact hne

theorem Counters.decay_below {m : List Host.Cell} {n : Nat} (h : Memory.below m n = true) :
    Memory.below (m.filterMap decayCell) n = true := by
  rw [Memory.below_iff] at h ⊢
  intro d hd
  obtain ⟨c, hmem, hc⟩ := List.mem_filterMap.1 hd
  rw [decayCell_fst hc]
  exact h c hmem

theorem State.memoriesCanonical_withCounters {s : State} (h : s.memoriesCanonical) {m : List Host.Cell}
    (hwf : Counters.wf m = true) (hbelow : Memory.below m (HostConfig.guardPage s.cfg + 1) = true) :
    State.memoriesCanonical { s with changedvram := m } := by
  obtain ⟨hv, hvb, -, -, hrest⟩ := h
  exact ⟨hv, hvb, hwf, hbelow, hrest⟩

theorem State.memoriesCanonical_stampPage {s : State} (p : Nat) (h : s.memoriesCanonical) :
    (s.stampPage p).memoriesCanonical := by
  unfold State.stampPage
  split
  · next hp =>
    obtain ⟨-, -, hc, hcb, -⟩ := id h
    exact State.memoriesCanonical_withCounters h (Counters.write_wf hc _ _)
      (Counters.write_below hcb (Nat.lt_succ_of_le hp) _)
  · exact h

theorem State.memoriesCanonical_decay {s : State} (h : s.memoriesCanonical) :
    State.memoriesCanonical { s with changedvram := s.changedvram.filterMap decayCell } := by
  obtain ⟨-, -, hc, hcb, -⟩ := id h
  exact State.memoriesCanonical_withCounters h (Counters.decay_wf hc) (Counters.decay_below hcb)

theorem State.memoriesCanonical_fbWrite {s : State} (l : Half) (x v : Nat) (h : s.memoriesCanonical) :
    (s.fbWrite l x v).memoriesCanonical := by
  obtain ⟨hv, hvb, hc, hcb, hs, hsb, hp, hpb, hl, hlb, hf⟩ := h
  exact ⟨hv, hvb, hc, hcb, hs, hsb, hp, hpb, hl, hlb, Memory.write_wf hf _ _⟩

theorem State.memoriesCanonical_tickStable : State.TickStable State.memoriesCanonical where
  raster h _ := h
  emit _ h := h
  pixel := State.memoriesCanonical_fbWrite
  stamp := State.memoriesCanonical_stampPage
  decay := State.memoriesCanonical_decay

theorem SubStoreEffect.memoriesCanonical {s t : State} {f : SubField} (he : SubStoreEffect s f t)
    (h : s.memoriesCanonical) : t.memoriesCanonical := by
  obtain ⟨hv, hvb, hc, hcb, hs, hsb, hp, hpb, hl, hlb, hf⟩ := id h
  cases he with
  | registers e => exact h
  | palette _ k c e =>
    exact ⟨hv, hvb, hc, hcb, hs, hsb, Memory.write_wf hp _ _, Memory.write_below hpb k.isLt c, hl, hlb, hf⟩
  | sprite _ k v e =>
    exact ⟨hv, hvb, hc, hcb, Memory.write_wf hs _ _, Memory.write_below hsb k.isLt v, hp, hpb, hl, hlb, hf⟩

theorem PortEffect.memoriesCanonical {s t : State} {reached : Option SubField} (he : PortEffect s reached t)
    (h : s.memoriesCanonical) : t.memoriesCanonical := by
  cases he with
  | ignored => exact h
  | stores e => exact h
  | recalculates e => exact h
  | remaps e => exact h
  | sub _ hstore => exact hstore.memoriesCanonical h
  | subRecalculates _ hstore => exact hstore.memoriesCanonical h

theorem State.drawsLaw.memoriesCanonical {s t : State} (hd : s.drawsLaw t) (h : s.memoriesCanonical) :
    t.memoriesCanonical := by
  obtain ⟨-, -, hmem⟩ := hd
  exact (hmem h).1

theorem RowEffect.memoriesCanonical {s t : State} {i : Instr} (he : RowEffect s i t) (h : s.memoriesCanonical) :
    t.memoriesCanonical := by
  cases he with
  | draws hd => exact (hd.memoriesCanonical h :)
  | answers hd => exact (hd.memoriesCanonical h :)
  | port => exact (s.portWrite_effect _ _).memoriesCanonical h
  | field => exact (s.portStore_effect _ _).memoriesCanonical h
  | sub => exact (s.subWrite_effect _ _).memoriesCanonical h
  | tick => exact State.memoriesCanonical_tickStable.tick h

theorem State.memoriesCanonical_legacyWrite {s : State} (a : Nat) (v : Byte) (h : s.memoriesCanonical) :
    (s.legacyWrite a v).memoriesCanonical := by
  unfold State.legacyWrite
  split
  · next ha =>
    obtain ⟨hv, hvb, hrest⟩ := h
    exact ⟨Memory.write_wf hv _ _, Memory.write_below hvb ha v, hrest⟩
  · exact h

theorem State.memoriesCanonical_withCrtcByte {s : State} (h : s.memoriesCanonical) {k : Nat} (hk : k < 256) (v : Byte) :
    State.memoriesCanonical { s with legacyCrtc := Memory.write s.legacyCrtc k v } := by
  obtain ⟨hv, hvb, hc, hcb, hs, hsb, hp, hpb, hl, hlb, hf⟩ := h
  exact ⟨hv, hvb, hc, hcb, hs, hsb, hp, hpb, Memory.write_wf hl _ _, Memory.write_below hlb hk v, hf⟩

theorem State.memoriesCanonical_crtcWrite {s : State} (k v : Byte) (h : s.memoriesCanonical) :
    (s.crtcWrite k v).memoriesCanonical := by
  unfold State.crtcWrite
  split
  · exact h
  · split
    · exact State.memoriesCanonical_withCrtcByte h (by decide) _
    · exact State.memoriesCanonical_withCrtcByte h k.isLt v

/-- The stores of a device that nothing has written are empty; the host's two stores are kept (log 37). -/
theorem State.memoriesCanonical_keepingHost {s t : State} (h : s.memoriesCanonical) (hv : t.vram = [])
    (hc : t.changedvram = []) (hs : t.spriteData = []) (hp : t.palette = []) :
    (s.keepingHost t).memoriesCanonical := by
  obtain ⟨-, -, -, -, -, -, -, -, hl, hlb, hf⟩ := h
  unfold State.memoriesCanonical State.keepingHost
  dsimp only
  rw [hv, hc, hs, hp]
  exact ⟨rfl, rfl, rfl, rfl, rfl, rfl, rfl, rfl, hl, hlb, hf⟩

theorem State.memoriesCanonical_detachDevice {s : State} (h : s.memoriesCanonical) :
    s.detachDevice.memoriesCanonical := by
  unfold State.detachDevice
  exact State.memoriesCanonical_keepingHost h rfl rfl rfl rfl

theorem State.memoriesCanonical_attachDevice {s : State} (rom : Option (List Byte)) (lb b1 : Word) (cfg : HostConfig)
    (h : s.memoriesCanonical) : (s.attachDevice rom lb b1 cfg).memoriesCanonical := by
  cases rom with
  | none => exact (State.memoriesCanonical_detachDevice h :)
  | some image =>
    have hnew : (s.keepingHost (State.created lb b1 { cfg with rom := image })).memoriesCanonical :=
      State.memoriesCanonical_keepingHost h rfl rfl rfl rfl
    exact hnew

theorem EventEffect.memoriesCanonical {s t : State} (he : EventEffect s t) (h : s.memoriesCanonical) :
    t.memoriesCanonical := by
  cases he with
  | row hr => exact hr.memoriesCanonical h
  | answers v => exact h
  | window hd => exact (hd.memoriesCanonical h :)
  | flags f => exact h
  | bases e => exact h
  | legacyVram a v => exact State.memoriesCanonical_legacyWrite a v h
  | legacyCrtc k v => exact State.memoriesCanonical_crtcWrite k v h
  | attach rom lb b1 cfg => exact State.memoriesCanonical_attachDevice rom lb b1 cfg h
  | detach => exact State.memoriesCanonical_detachDevice h

/-- Settles O9: an idle step keeps the stores, and so does every effect of an event. -/
theorem stepKeepsMemoriesCanonical : Obligations.StepKeepsMemoriesCanonical := by
  intro s t h hstep
  obtain rfl | ⟨rest, he⟩ := step_effect hstep
  · exact h
  · exact he.memoriesCanonical h

end Sys2Proof.Machine
end

section
/-! The counters stay bounded (R283, R290, R297, R298), in states whose stores are canonical. -/

-- Theorem bodies in sequence: many waiting at once would each hold a thread of the compile.
set_option Elab.async false

namespace Sys2Proof.Machine

/-- The bound of the counters rests on canonical stores: a counter reads back as it was stamped. -/
def State.countersSound (s : State) : Prop := s.memoriesCanonical ∧ s.countersBounded

/-- The frame counter's two values lie under the counters' bound. -/
theorem frameCounter_le {c : Byte} (h : c = 2 ∨ c = 3) : c.toNat ≤ 3 := by
  rcases h with rfl | rfl <;> decide

theorem State.countersBounded_withRaster {s : State} {r : Raster} (h : s.countersBounded)
    (hr : s.raster.TickChange r) : (s.withRaster r).countersBounded := by
  obtain ⟨hframe, hredraw, hdirty, hrows⟩ := h
  refine ⟨?_, hr.redraw.trans hredraw, hdirty, ?_⟩
  · rcases hr.frame with heq | hset
    · rw [State.withRaster_raster, heq]; exact hframe
    · exact hset
  · rcases hr.rows with hle | hle
    · exact hle.trans hrows
    · exact hle

/-- Counters that each were there before, or are no larger than one that was, or hold the frame counter. -/
theorem State.countersBounded_of_dirty {s t : State} (h : s.countersBounded) (hraster : t.raster = s.raster)
    (hdirty : ∀ p, (t.dirty p).toNat ≤ (s.dirty p).toNat ∨ t.dirty p = s.raster.changeframecount) :
    t.countersBounded := by
  obtain ⟨hframe, hredraw, hbound, hrows⟩ := h
  unfold State.countersBounded
  rw [hraster]
  refine ⟨hframe, hredraw, fun p => ?_, hrows⟩
  rcases hdirty p with hle | heq
  · exact hle.trans (hbound p)
  · rw [heq]; exact frameCounter_le hframe

theorem State.stampPage_raster (s : State) (p : Nat) : (s.stampPage p).raster = s.raster := by
  unfold State.stampPage
  split <;> rfl

theorem State.countersBounded_stampPage {s : State} (p : Nat) (hc : s.memoriesCanonical) (h : s.countersBounded) :
    (s.stampPage p).countersBounded := by
  obtain ⟨-, -, hwf, -⟩ := hc
  refine State.countersBounded_of_dirty h (s.stampPage_raster p) fun q => ?_
  rw [State.stampPage_dirty hwf]
  split
  · exact .inr rfl
  · exact .inl (Nat.le_refl _)

theorem State.countersBounded_decay {s : State} (hc : s.memoriesCanonical) (h : s.countersBounded) :
    State.countersBounded { s with changedvram := s.changedvram.filterMap decayCell } := by
  obtain ⟨-, -, hwf, -⟩ := hc
  obtain ⟨hrising, -⟩ := (Counters.wf_iff _).1 hwf
  refine State.countersBounded_of_dirty h rfl fun p => .inl ?_
  unfold State.dirty
  rw [Counters.read_decay hrising]
  exact decayCounter_le _

theorem State.countersSound_tickStable : State.TickStable State.countersSound where
  raster h hr := ⟨h.1, State.countersBounded_withRaster h.2 hr⟩
  emit _ h := h
  pixel l x v h := ⟨State.memoriesCanonical_fbWrite l x v h.1, h.2⟩
  stamp p h := ⟨State.memoriesCanonical_stampPage p h.1, State.countersBounded_stampPage p h.1 h.2⟩
  decay h := ⟨State.memoriesCanonical_decay h.1, State.countersBounded_decay h.1 h.2⟩

/-- The recalculation sets the force-redraw counter to the frame counter (R283). -/
theorem State.countersBounded_recalc {s : State} (h : s.countersBounded) : s.recalc.countersBounded := by
  obtain ⟨hframe, -, hdirty, hrows⟩ := h
  exact ⟨hframe, frameCounter_le hframe, hdirty, hrows⟩

theorem State.drawsLaw.countersBounded {s t : State} (hd : s.drawsLaw t) (hc : s.memoriesCanonical)
    (h : s.countersBounded) : t.countersBounded := by
  obtain ⟨hframe, -, hmem⟩ := hd
  obtain ⟨-, -, hpages⟩ := hmem hc
  refine State.countersBounded_of_dirty h (State.sameButDrawing_raster hframe) fun p => ?_
  rcases hpages p with hsame | ⟨hstamp, -⟩
  · exact .inl (by rw [hsame])
  · exact .inr hstamp

theorem SubStoreEffect.countersBounded {s t : State} {f : SubField} (he : SubStoreEffect s f t)
    (h : s.countersBounded) : t.countersBounded := by
  cases he with
  | registers e => exact h
  | palette _ k c e => exact h
  | sprite _ k v e => exact h

theorem PortEffect.countersBounded {s t : State} {reached : Option SubField} (he : PortEffect s reached t)
    (h : s.countersBounded) : t.countersBounded := by
  cases he with
  | ignored => exact h
  | stores e => exact h
  | recalculates e => exact State.countersBounded_recalc (s := s.withExt e) h
  | remaps e => exact h
  | sub _ hstore => exact hstore.countersBounded h
  | subRecalculates _ hstore => exact State.countersBounded_recalc (hstore.countersBounded h)

theorem RowEffect.countersBounded {s t : State} {i : Instr} (he : RowEffect s i t) (hc : s.memoriesCanonical)
    (h : s.countersBounded) : t.countersBounded := by
  cases he with
  | draws hd => exact (hd.countersBounded hc h :)
  | answers hd => exact (hd.countersBounded hc h :)
  | port => exact (s.portWrite_effect _ _).countersBounded h
  | field => exact (s.portStore_effect _ _).countersBounded h
  | sub => exact (s.subWrite_effect _ _).countersBounded h
  | tick => exact (State.countersSound_tickStable.tick ⟨hc, h⟩).2

/-- No counter of a new device is set, but the frame counter, which is 2 (R40). -/
theorem State.countersBounded_of_new {t : State} {sentinel : Half} (hr : t.raster = Raster.zero sentinel)
    (hc : t.changedvram = []) : t.countersBounded := by
  unfold State.countersBounded State.dirty
  rw [hr, hc]
  exact ⟨.inl rfl, Nat.zero_le _, fun p => Nat.zero_le _, Nat.zero_le _⟩

theorem State.countersBounded_attachDevice (s : State) (rom : Option (List Byte)) (lb b1 : Word) (cfg : HostConfig) :
    (s.attachDevice rom lb b1 cfg).countersBounded := by
  cases rom with
  | none => exact State.countersBounded_of_new rfl rfl
  | some image => exact State.countersBounded_of_new rfl rfl

theorem State.countersBounded_legacyWrite {s : State} (a : Nat) (v : Byte) (h : s.countersBounded) :
    (s.legacyWrite a v).countersBounded := by
  unfold State.legacyWrite
  split
  · exact h
  · exact h

theorem State.countersBounded_crtcWrite {s : State} (k v : Byte) (h : s.countersBounded) :
    (s.crtcWrite k v).countersBounded := by
  unfold State.crtcWrite
  split
  · exact h
  · split
    · exact h
    · exact h

theorem EventEffect.countersBounded {s t : State} (he : EventEffect s t) (hc : s.memoriesCanonical)
    (h : s.countersBounded) : t.countersBounded := by
  cases he with
  | row hr => exact hr.countersBounded hc h
  | answers v => exact h
  | window hd => exact (hd.countersBounded hc h :)
  | flags f => exact h
  | bases e => exact h
  | legacyVram a v => exact State.countersBounded_legacyWrite a v h
  | legacyCrtc k v => exact State.countersBounded_crtcWrite k v h
  | attach rom lb b1 cfg => exact s.countersBounded_attachDevice rom lb b1 cfg
  | detach => exact State.countersBounded_of_new rfl rfl

/-- Settles O11: an idle step keeps the bounds, and so does every effect of an event on canonical stores. -/
theorem stepKeepsCountersBounded : Obligations.StepKeepsCountersBounded := by
  intro s t hc h hstep
  obtain rfl | ⟨rest, he⟩ := step_effect hstep
  · exact h
  · exact he.countersBounded hc h

end Sys2Proof.Machine
end

section
/-! What a row other than the tick leaves alone: the raster state and the effective timing (R40, R280), and, unless it
reaches a data register, the palette and the sprite buffer (R23, R24, R344, R345). -/

-- Theorem bodies in sequence: many waiting at once would each hold a thread of the compile.
set_option Elab.async false

namespace Sys2Proof.Machine

/-! ## The raster state and the effective timing -/

/-- `t` has the raster state and the timing of `s`, but for a recalculation (R283). -/
def State.rasterUnlessRecalc (s t : State) : Prop :=
  (t.raster = s.raster ∧ t.eff = s.eff) ∨
    (t.raster = { s.raster with fullchange := s.raster.changeframecount } ∧ t.eff = t.recalcValue)

theorem SubStoreEffect.raster {s t : State} {f : SubField} (he : SubStoreEffect s f t) : t.raster = s.raster := by
  cases he <;> rfl

theorem SubStoreEffect.eff {s t : State} {f : SubField} (he : SubStoreEffect s f t) : t.eff = s.eff := by
  cases he <;> rfl

/-- A recalculation of a state that has the raster state of `s`. -/
theorem State.rasterUnlessRecalc_recalc {s u : State} (h : u.raster = s.raster) : s.rasterUnlessRecalc u.recalc :=
  .inr ⟨by rw [← h]; rfl, rfl⟩

theorem PortEffect.rasterUnlessRecalc {s t : State} {reached : Option SubField} (he : PortEffect s reached t) :
    s.rasterUnlessRecalc t := by
  cases he with
  | ignored => exact .inl ⟨rfl, rfl⟩
  | stores e => exact .inl ⟨rfl, rfl⟩
  | recalculates e => exact State.rasterUnlessRecalc_recalc rfl
  | remaps e => exact .inl ⟨rfl, rfl⟩
  | sub _ hstore => exact .inl ⟨hstore.raster, hstore.eff⟩
  | subRecalculates _ hstore => exact State.rasterUnlessRecalc_recalc hstore.raster

theorem State.drawsLaw.rasterUnlessRecalc {s t : State} (hd : s.drawsLaw t) : s.rasterUnlessRecalc t := by
  obtain ⟨hframe, -, -⟩ := hd
  exact .inl ⟨State.sameButDrawing_raster hframe, State.sameButDrawing_eff hframe⟩

theorem RowEffect.rasterUnlessRecalc {s t : State} {i : Instr} (he : RowEffect s i t) (hi : i ≠ .tick) :
    s.rasterUnlessRecalc t := by
  cases he with
  | draws hd => exact (hd.rasterUnlessRecalc :)
  | answers hd => exact (hd.rasterUnlessRecalc :)
  | port => exact (s.portWrite_effect _ _).rasterUnlessRecalc
  | field => exact (s.portStore_effect _ _).rasterUnlessRecalc
  | sub => exact (s.subWrite_effect _ _).rasterUnlessRecalc
  | tick => exact absurd rfl hi

/-- Settles O13: drawing keeps the raster state, and a port write recalculates or keeps it too. -/
theorem onlyTicksMoveRaster : Obligations.OnlyTicksMoveRaster := by
  intro i s t hi hexec
  exact (RowEffect.of_exec hexec).rasterUnlessRecalc hi

/-! ## The palette and the sprite buffer -/

/-- `f` is a data register, and the table behind it differs in `t` (R344, R345). -/
def State.tableChanged (s t : State) (f : SubField) : Prop :=
  (f = .paletteData ∧ t.palette ≠ s.palette) ∨ (f = .spriteData ∧ t.spriteData ≠ s.spriteData)

theorem State.not_tableChanged {s t : State} (hpal : t.palette = s.palette) (hspr : t.spriteData = s.spriteData)
    (f : SubField) : ¬ s.tableChanged t f := by
  rintro (⟨-, hne⟩ | ⟨-, hne⟩)
  · exact hne hpal
  · exact hne hspr

theorem SubStoreEffect.eq_of_tableChanged {s t : State} {g f : SubField} (he : SubStoreEffect s g t)
    (h : s.tableChanged t f) : g = f := by
  cases he with
  | registers e => exact absurd h (State.not_tableChanged rfl rfl f)
  | palette hg k c e =>
    rcases h with ⟨hf, -⟩ | ⟨-, hne⟩
    · rw [hg, hf]
    · exact absurd rfl hne
  | sprite hg k v e =>
    rcases h with ⟨-, hne⟩ | ⟨hf, -⟩
    · exact absurd rfl hne
    · rw [hg, hf]

/-- A port write changes a table only by the data register that it reaches. -/
theorem PortEffect.reached_of_tableChanged {s t : State} {reached : Option SubField} {f : SubField}
    (he : PortEffect s reached t) (h : s.tableChanged t f) : reached = some f := by
  cases he with
  | ignored => exact absurd h (State.not_tableChanged rfl rfl f)
  | stores e => exact absurd h (State.not_tableChanged rfl rfl f)
  | recalculates e => exact absurd h (State.not_tableChanged rfl rfl f)
  | remaps e => exact absurd h (State.not_tableChanged rfl rfl f)
  | sub hf hstore => rw [hf, hstore.eq_of_tableChanged h]
  | subRecalculates hf hstore => rw [hf, hstore.eq_of_tableChanged h]

theorem State.drawsLaw.not_tableChanged {s t : State} (hd : s.drawsLaw t) (f : SubField) : ¬ s.tableChanged t f := by
  obtain ⟨hframe, -, -⟩ := hd
  exact State.not_tableChanged (State.sameButDrawing_palette hframe) (State.sameButDrawing_spriteData hframe) f

theorem State.not_tableChanged_tick (s : State) (f : SubField) : ¬ s.tableChanged s.tick f := by
  have hframe := s.sameButTick_tick
  unfold State.sameButTick at hframe
  exact State.not_tableChanged (by rw [hframe]) (by rw [hframe]) f

/-- The row `i` writes a byte that reaches the sub-register field `f`: its index directly, or through a data port while
the register index holds that index (R341, R343). -/
def State.reaches (s : State) (i : Instr) (f : SubField) : Prop :=
  ∃ k v : Byte, s.subFieldAt k.toNat = some f ∧
    ((∃ r, (k, r) ∈ subRows ∧ i = r (.write v)) ∨
      (s.ext.regIdx = k ∧
        ((∃ p : BitVec 4, portField s.cfg.extRegMap p = some .data ∧
            (i = .out p v ∨ ∃ r, (p, r) ∈ unnamedRows ∧ i = r (.write v))) ∨
          ∃ r, (.data, r) ∈ fieldRows ∧ i = r (.write v))))

/-- The row of a field's port makes the store of that field, whatever number the port has (log 31). -/
theorem exec_fieldRow {g : PortField} {r : ByteAccess → Instr} (hr : (g, r) ∈ fieldRows) (v : Byte) (s : State) :
    exec (r (.write v)) s = .next (s.portStore g v) := by
  simp only [fieldRows, List.mem_cons, Prod.mk.injEq, List.not_mem_nil, or_false] at hr
  rcases hr with ⟨rfl, rfl⟩ | ⟨rfl, rfl⟩ | ⟨rfl, rfl⟩ | ⟨rfl, rfl⟩ | ⟨rfl, rfl⟩ | ⟨rfl, rfl⟩ | ⟨rfl, rfl⟩ |
    ⟨rfl, rfl⟩ | ⟨rfl, rfl⟩ | ⟨rfl, rfl⟩ | ⟨rfl, rfl⟩ <;> rfl

/-- A port's row is the row of a field or one of the unnamed ports. -/
theorem portRows_split {p : BitVec 4} {r : ByteAccess → Instr} (hr : (p, r) ∈ portRows) :
    (p, r) ∈ unnamedRows ∨ ∃ g, (g, r) ∈ fieldRows := by
  have hall : portRows.Forall fun q => q ∈ unnamedRows ∨ q.2 ∈ fieldRows.map Prod.snd := by
    simp [portRows, unnamedRows, fieldRows]
  rcases List.forall_iff_forall_mem.1 hall _ hr with hunnamed | hfield
  · exact .inl hunnamed
  · obtain ⟨⟨g, r'⟩, hmem, rfl⟩ := List.mem_map.1 hfield
    exact .inr ⟨g, hmem⟩

theorem State.reaches_of_fieldRow {s t : State} {g : PortField} {r : ByteAccess → Instr} {v : Byte} {f : SubField}
    (hr : (g, r) ∈ fieldRows) (ht : exec (r (.write v)) s = .next t) (h : s.tableChanged t f) :
    s.reaches (r (.write v)) f := by
  rw [exec_fieldRow hr v s] at ht
  cases ht
  obtain ⟨rfl, hat⟩ := State.subFieldVia_eq_some ((s.portStore_effect g v).reached_of_tableChanged h)
  exact ⟨s.ext.regIdx, v, hat, .inr ⟨rfl, .inr ⟨r, hr, rfl⟩⟩⟩

/-- A write of a port changes a table only through a data port. -/
theorem State.dataPort_of_tableChanged {s : State} {p : BitVec 4} {v : Byte} {f : SubField}
    (h : s.tableChanged (s.portWrite p v) f) :
    portField s.cfg.extRegMap p = some .data ∧ s.subFieldAt s.ext.regIdx.toNat = some f := by
  obtain ⟨g, hport, hvia⟩ := Option.bind_eq_some_iff.1 ((s.portWrite_effect p v).reached_of_tableChanged h)
  obtain ⟨rfl, hat⟩ := State.subFieldVia_eq_some hvia
  exact ⟨hport, hat⟩

/-- A row changes a table only by reaching its data register. -/
theorem State.reaches_of_exec {s t : State} {i : Instr} (hexec : exec i s = .next t) {f : SubField}
    (h : s.tableChanged t f) : s.reaches i f := by
  cases RowEffect.of_exec hexec with
  | draws hd => exact absurd h (hd.not_tableChanged f :)
  | answers hd => exact absurd h (hd.not_tableChanged f :)
  | @port _ p v hi =>
    obtain ⟨hport, hat⟩ := State.dataPort_of_tableChanged h
    rcases hi with rfl | ⟨r, hr, rfl⟩
    · exact ⟨s.ext.regIdx, v, hat, .inr ⟨rfl, .inl ⟨p, hport, .inl rfl⟩⟩⟩
    · rcases portRows_split hr with hunnamed | ⟨g, hfield⟩
      · exact ⟨s.ext.regIdx, v, hat, .inr ⟨rfl, .inl ⟨p, hport, .inr ⟨r, hunnamed, rfl⟩⟩⟩⟩
      · exact State.reaches_of_fieldRow hfield hexec h
  | field hi =>
    obtain ⟨r, hr, rfl⟩ := hi
    exact State.reaches_of_fieldRow hr hexec h
  | @sub _ k v hi => exact ⟨k, v, (s.subWrite_effect k.toNat v).reached_of_tableChanged h, .inl hi⟩
  | tick => exact absurd h (s.not_tableChanged_tick f)

/-! ### The default map (D22) -/

theorem subEntry_eq_some {m : ExtRegMap} {k : Nat} {e : SubEntry} (h : subEntry m k = some e) :
    e ∈ m.subs ∧ e.index = k :=
  ⟨List.mem_of_find?_eq_some h, by simpa using List.find?_some h⟩

/-- A field that the default map gives one index is behind that index alone. -/
theorem extSubs_field_iff {f : SubField} {n : Byte} (honly : ∀ e ∈ Config.extSubs, e.field = f → e.index = n.toNat)
    (hat : (subEntry Config.extRegMap n.toNat).map SubEntry.field = some f) (k : Byte) :
    (subEntry Config.extRegMap k.toNat).map SubEntry.field = some f ↔ k = n := by
  refine ⟨fun h => ?_, fun h => h ▸ hat⟩
  obtain ⟨e, he, hfield⟩ := Option.map_eq_some_iff.1 h
  obtain ⟨hmem, hindex⟩ := subEntry_eq_some he
  exact BitVec.eq_of_toNat_eq (hindex.symm.trans (honly e hmem hfield))

/-- Settles O14: the rows that change a table reach its data register; the default map's entries are looked up. -/
theorem onlyDataRegistersWriteTables : Obligations.OnlyDataRegistersWriteTables := by
  refine ⟨?rows, ?indices, ?ports⟩
  case rows =>
    intro i s t hexec
    exact ⟨fun hne => State.reaches_of_exec hexec (.inl ⟨rfl, hne⟩),
      fun hne => State.reaches_of_exec hexec (.inr ⟨rfl, hne⟩)⟩
  case indices =>
    intro k
    exact ⟨extSubs_field_iff (by decide) (by decide) k, extSubs_field_iff (by decide) (by decide) k⟩
  case ports => decide

end Sys2Proof.Machine
end

section
/-! The state after attach (R47, R391), the host's settings (R37, R46, R348, R352, R353), and the active line that is not
displayed (R285, R286, R290). -/

-- Theorem bodies in sequence: many waiting at once would each hold a thread of the compile.
set_option Elab.async false

namespace Sys2Proof.Machine

/-! ## After attach -/

/-- Settles O1: every field is the value that `State.reset` writes, and no counter is listed. -/
theorem resetHasAttachValues : Obligations.ResetHasAttachValues :=
  ⟨rfl, rfl, rfl, rfl, rfl, rfl, rfl, fun p => Counters.read_nil p⟩

theorem State.reset_memoriesCanonical : State.reset.memoriesCanonical :=
  ⟨rfl, rfl, rfl, rfl, rfl, rfl, rfl, rfl, rfl, rfl, rfl⟩

/-- After attach the aperture control is 0 and there is no legacy override: the linear window is mapped (R390). -/
theorem State.reset_mappingCurrent : State.reset.mappingCurrent :=
  fun _ => ⟨rfl, fun hbanked => absurd hbanked (by decide)⟩

/-- Settles O8: the stores are empty, the mapping is the one that was requested, the counters are a new device's. -/
theorem invariantsHoldAtReset : Obligations.InvariantsHoldAtReset :=
  ⟨State.reset_memoriesCanonical, State.reset_mappingCurrent, State.countersBounded_of_new rfl rfl⟩

/-! ## What the host sets -/

/-- The windows by the value of the aperture control (R348, D34). -/
theorem Ext.windows_eq (e : Ext) (base : Word) :
    e.windows base =
      if e.apertureCntl = 1 then .banked base
      else if e.apertureCntl = 0 then
        if e.baseAddr1mb ≠ 0 then .linear e.baseAddr1mb 0x100000 else .linear e.linearBase 0x400000
      else .unmapped := by
  by_cases hone : e.apertureCntl = 1
  · simp [Ext.windows, hone]
  · by_cases hzero : e.apertureCntl = 0
    · simp [Ext.windows, hzero]
    · have hone' : e.apertureCntl.toNat ≠ 1 := fun h => hone (BitVec.eq_of_toNat_eq h)
      have hzero' : e.apertureCntl.toNat ≠ 0 := fun h => hzero (BitVec.eq_of_toNat_eq h)
      unfold Ext.windows
      split
      · next h => exact absurd h hone'
      · next h => exact absurd h hzero'
      · rw [if_neg hone, if_neg hzero]

/-- What a remapping leaves: the windows, the banked mask, the request (R348). -/
theorem State.updateMapping_eq (s : State) :
    s.updateMapping =
      { s with
        ext := { s.ext with bankedMask := if s.ext.apertureCntl = 1 then 0xFFFF else s.ext.bankedMask }
        mapping := s.ext.windows s.cfg.bankedBase
        outputs := .mapRequest (s.ext.windows s.cfg.bankedBase) :: s.outputs } := rfl

theorem State.deliver_legacyVramWrite (s : State) (a : Nat) (v : Byte) :
    s.deliver (.legacyVramWrite a v) =
      if s.flags.on then .refused .legacyWriteWhileOn else .next (s.legacyWrite a v) := rfl

/-- A legacy-layer write changes video memory alone: no dirty stamp (R46, R84). -/
theorem State.legacyWrite_frame (s : State) (a : Nat) (v : Byte) :
    s.legacyWrite a v = { s with vram := (s.legacyWrite a v).vram } := by
  unfold State.legacyWrite
  split <;> rfl

/-- A legacy CRTC write changes the legacy CRTC file alone (R352). -/
theorem State.crtcWrite_frame (s : State) (k v : Byte) :
    s.crtcWrite k v = { s with legacyCrtc := (s.crtcWrite k v).legacyCrtc } := by
  unfold State.crtcWrite
  split
  · rfl
  · split <;> rfl

/-- What the legacy CRTC file reads after a byte is stored in it. -/
theorem State.crtcAt_withCrtcByte (s : State) (k j : Nat) (v : Byte) :
    State.crtcAt { s with legacyCrtc := Memory.write s.legacyCrtc k v } j = if j = k then v else s.crtcAt j :=
  Memory.getD_write s.legacyCrtc k j v _

/-- The guard of R352: the lock bit drops a write of register 0 to 6, the protect bit filters one of register 7. -/
theorem State.crtcAt_crtcWrite (s : State) (k v : Byte) (j : Nat) :
    (s.crtcWrite k v).crtcAt j =
      if j ≠ k.toNat then s.crtcAt j
      else if Config.crtcLocked s.legacyCrtc = true ∧ j ≤ 6 then s.crtcAt j
      else if Config.crtcProtected s.legacyCrtc = true ∧ j = 7 then Config.crtcFilter7 (s.crtcAt j) v
      else v := by
  unfold State.crtcWrite
  by_cases hlocked : Config.crtcLocked s.legacyCrtc = true ∧ k.toNat ≤ 6
  · rw [if_pos hlocked]
    by_cases hj : j = k.toNat
    · rw [if_neg (not_not_intro hj), hj, if_pos hlocked]
    · rw [if_pos hj]
  · rw [if_neg hlocked]
    by_cases hprotected : Config.crtcProtected s.legacyCrtc = true ∧ k.toNat = 7
    · rw [if_pos hprotected, State.crtcAt_withCrtcByte]
      obtain ⟨-, hk⟩ := id hprotected
      by_cases hj : j = k.toNat
      · rw [if_pos (hj.trans hk), if_neg (not_not_intro hj), hj, if_neg hlocked, if_pos hprotected, hk]
      · rw [if_pos hj, if_neg (fun h7 => hj (h7.trans hk.symm))]
    · rw [if_neg hprotected, State.crtcAt_withCrtcByte]
      by_cases hj : j = k.toNat
      · rw [if_pos hj, if_neg (not_not_intro hj), hj, if_neg hlocked, if_neg hprotected]
      · rw [if_neg hj, if_pos hj]

/-- Settles O30: an attached device takes the event whole, and each event's delivery is read off. -/
theorem hostSettingsTakeEffect : Obligations.HostSettingsTakeEffect := by
  intro s e rest hatt hin u remapped
  have hstep : step s = u.deliver e := step_of_inbox_cons hin (by rw [hatt, Bool.true_or])
  have hremap : ∀ x : Ext, (u.withExt x).updateMapping = remapped x := fun x => by
    rw [State.updateMapping_eq, Ext.windows_eq]
    rfl
  refine ⟨?on, ?endian, ?cursor, ?linear, ?legacyBase, ?vram, ?vramRefused, ?crtcRead, ?crtcWrite⟩
  case on => rintro v rfl; exact hstep
  case endian => rintro v rfl; exact hstep
  case cursor => rintro v rfl; exact hstep
  case linear => rintro v rfl; rw [hstep, ← hremap]; rfl
  case legacyBase => rintro v rfl; rw [hstep, ← hremap]; rfl
  case vram =>
    rintro a v rfl hoff
    refine ⟨u.legacyWrite a v, ?_, u.legacyWrite_frame a v, fun b => u.vramAt_legacyWrite a b v⟩
    rw [hstep, State.deliver_legacyVramWrite, if_neg (by rw [hoff]; decide)]
  case vramRefused =>
    rintro a v rfl hon
    rw [hstep, State.deliver_legacyVramWrite, if_pos hon]
  case crtcRead => rintro k rfl; exact hstep
  case crtcWrite =>
    rintro k v rfl
    exact ⟨u.crtcWrite k v, hstep, u.crtcWrite_frame k v, u.crtcAt_crtcWrite k v⟩

/-! ## The active line that is not displayed -/

/-- The trigger of the first field (R290). -/
def State.firstTrigger (s : State) : Prop :=
  s.raster.latch.ena = true ∧ (s.raster.displine.toNat : Int) = sext16 s.raster.latch.y

/-- The trigger of the secondary field (R290, log 38). -/
def State.secondTrigger (s : State) : Prop :=
  s.raster.latch.ena = true ∧ s.eff.interlace = true ∧ (s.raster.displine.toNat : Int) = sext16 s.raster.latch.y + 1

/-- What the first field's trigger leaves (R290). -/
def State.triggeredFirst (s : State) : State :=
  s.withRaster { s.raster with
    hwcursorOn := BitVec.ofNat 7 (64 - s.raster.latch.yoff.toNat)
    hwcursorOddeven := false
    latch := { s.raster.latch with addr := BitVec.ofNat 10 (s.raster.latch.yoff.toNat * 16) } }

/-- What the secondary field's trigger leaves (R290). -/
def State.triggeredSecond (s : State) : State :=
  s.withRaster { s.raster with
    hwcursorOn := BitVec.ofNat 7 (64 - (s.raster.latch.yoff.toNat + 1))
    hwcursorOddeven := true
    latch := { s.raster.latch with addr := BitVec.ofNat 10 ((s.raster.latch.yoff.toNat + 1) * 16) } }

/-- The two triggers want lines one apart. -/
theorem State.not_secondTrigger_of_firstTrigger {s : State} (h : s.firstTrigger) : ¬ s.secondTrigger := by
  rintro ⟨-, -, hsecond⟩
  obtain ⟨-, hfirst⟩ := h
  omega

theorem State.cursorTriggerFirst_of_firstTrigger {s : State} (h : s.firstTrigger) :
    s.cursorTriggerFirst = s.triggeredFirst := if_pos h

theorem State.cursorTriggerFirst_of_not {s : State} (h : ¬ s.firstTrigger) : s.cursorTriggerFirst = s := if_neg h

theorem State.cursorTriggerSecond_of_secondTrigger {s : State} (h : s.secondTrigger) :
    s.cursorTriggerSecond = s.triggeredSecond := if_pos h

theorem State.cursorTriggerSecond_of_not {s : State} (h : ¬ s.secondTrigger) : s.cursorTriggerSecond = s := if_neg h

/-- The first field's trigger moves neither the line nor what the second one compares it with. -/
theorem State.secondTrigger_triggeredFirst (s : State) : s.triggeredFirst.secondTrigger ↔ s.secondTrigger := Iff.rfl

theorem State.cursorTrigger_of_firstTrigger {s : State} (h : s.firstTrigger) : s.cursorTrigger = s.triggeredFirst := by
  have hnot : ¬ s.triggeredFirst.secondTrigger := by
    rw [State.secondTrigger_triggeredFirst]
    exact State.not_secondTrigger_of_firstTrigger h
  rw [State.cursorTrigger, State.cursorTriggerFirst_of_firstTrigger h, State.cursorTriggerSecond_of_not hnot]

theorem State.cursorTrigger_of_not_firstTrigger {s : State} (h : ¬ s.firstTrigger) :
    s.cursorTrigger = s.cursorTriggerSecond := by
  rw [State.cursorTrigger, State.cursorTriggerFirst_of_not h]

theorem State.cursorTrigger_of_secondTrigger {s : State} (h : s.secondTrigger) :
    s.cursorTrigger = s.triggeredSecond := by
  have hnot : ¬ s.firstTrigger := fun hfirst => State.not_secondTrigger_of_firstTrigger hfirst h
  rw [State.cursorTrigger_of_not_firstTrigger hnot, State.cursorTriggerSecond_of_secondTrigger h]

/-- On a line that triggers neither field nothing changes. -/
theorem State.cursorTrigger_of_not {s : State} (hfirst : ¬ s.firstTrigger) (hsecond : ¬ s.secondTrigger) :
    s.cursorTrigger = s := by
  rw [State.cursorTrigger_of_not_firstTrigger hfirst, State.cursorTriggerSecond_of_not hsecond]

/-- The trigger keeps a field of the state that neither field's trigger changes. -/
theorem State.cursorTrigger_keeps {α : Type} {field : State → α} {s : State}
    (hfirst : field s.triggeredFirst = field s) (hsecond : field s.triggeredSecond = field s) :
    field s.cursorTrigger = field s := by
  by_cases h1 : s.firstTrigger
  · rw [State.cursorTrigger_of_firstTrigger h1, hfirst]
  · by_cases h2 : s.secondTrigger
    · rw [State.cursorTrigger_of_secondTrigger h2, hsecond]
    · rw [State.cursorTrigger_of_not h1 h2]

theorem State.cursorTrigger_dispon (s : State) : s.cursorTrigger.raster.dispon = s.raster.dispon :=
  State.cursorTrigger_keeps (field := fun t => t.raster.dispon) rfl rfl

theorem State.cursorTrigger_displine (s : State) : s.cursorTrigger.raster.displine = s.raster.displine :=
  State.cursorTrigger_keeps (field := fun t => t.raster.displine) rfl rfl

theorem State.cursorTrigger_eff (s : State) : s.cursorTrigger.eff = s.eff :=
  State.cursorTrigger_keeps (field := State.eff) rfl rfl

theorem exec_tick (s : State) : exec .tick s = .next s.tick := rfl

/-- A tick delivered while `on` is false changes nothing (log 18). -/
theorem State.tick_of_off {s : State} (h : s.flags.on = false) : s.tick = s := by
  rw [State.tick, h]
  rfl

theorem State.tick_of_active {s : State} (hon : s.flags.on = true) (hpos : s.raster.linepos = false) :
    s.tick = s.enterActiveLine := by
  rw [State.tick, hon, hpos]
  rfl

/-- An active line while the display is off: the trigger, `linepos`, one step of the line counter (R286, R294). -/
theorem State.enterActiveLine_of_dispoff {s : State} (h : s.raster.dispon = false) :
    s.enterActiveLine = s.cursorTrigger.withRaster { s.cursorTrigger.raster with
      linepos := true
      displine := BitVec.ofNat 16 (s.raster.displine.toNat + if s.eff.interlace then 2 else 1) } := by
  have hdispon : (s.cursorTrigger.setLinepos true).raster.dispon = false := s.cursorTrigger_dispon.trans h
  have hoff : (s.cursorTrigger.setLinepos true).displayIfOn = s.cursorTrigger.setLinepos true :=
    if_neg (by rw [hdispon]; decide)
  rw [State.enterActiveLine, hoff, ← s.cursorTrigger_displine, ← s.cursorTrigger_eff]
  rfl

/-- Settles O55: the two triggers exclude each other, and with the display off only they and the line counter act. -/
theorem undisplayedActiveLineCounts : Obligations.UndisplayedActiveLineCounts := by
  intro s
  refine ⟨?neither, ?first, ?second, ?off, ?on⟩
  case neither => exact State.cursorTrigger_of_not
  case first => exact State.cursorTrigger_of_firstTrigger
  case second => exact State.cursorTrigger_of_secondTrigger
  case off =>
    intro hoff
    rw [exec_tick, State.tick_of_off hoff]
  case on =>
    intro hon hpos hdisp
    rw [exec_tick, State.tick_of_active hon hpos, State.enterActiveLine_of_dispoff hdisp]
    rfl

end Sys2Proof.Machine
end

section
/-! Which bytes of video memory and which dirty counters a row changes (R75, R84, R297), and what `VramWrite` leaves. -/

namespace Sys2Proof.Machine

/-! ## Every changed byte is stamped -/

/-- Video memory and its dirty counters are those of `s`. -/
def State.sameVram (s t : State) : Prop :=
  t.vram = s.vram ∧ t.changedvram = s.changedvram ∧ t.generation = s.generation

theorem State.sameVram.vramAt {s t : State} (h : s.sameVram t) (a : Nat) : t.vramAt a = s.vramAt a := by
  obtain ⟨hvram, -, hgen⟩ := h
  rw [State.vramAt, State.vramAt, hvram, hgen]

theorem State.sameVram.dirty {s t : State} (h : s.sameVram t) (p : Nat) : t.dirty p = s.dirty p := by
  obtain ⟨-, hcounters, -⟩ := h
  rw [State.dirty, State.dirty, hcounters]

theorem SubStoreEffect.sameVram {s t : State} {f : SubField} (he : SubStoreEffect s f t) : s.sameVram t := by
  cases he with
  | registers e => exact ⟨rfl, rfl, rfl⟩
  | palette _ k c e => exact ⟨rfl, rfl, rfl⟩
  | sprite _ k v e => exact ⟨rfl, rfl, rfl⟩

/-- No write of an extended port or a sub-register reaches video memory. -/
theorem PortEffect.sameVram {s t : State} {reached : Option SubField} (he : PortEffect s reached t) :
    s.sameVram t := by
  cases he with
  | ignored => exact ⟨rfl, rfl, rfl⟩
  | stores e => exact ⟨rfl, rfl, rfl⟩
  | recalculates e => exact ⟨rfl, rfl, rfl⟩
  | remaps e => exact ⟨rfl, rfl, rfl⟩
  | sub _ hstore => exact hstore.sameVram
  | subRecalculates _ hstore => exact hstore.sameVram

/-- Each changed byte is stamped, and each counter is kept or stamped (R75). -/
def State.stamps (s t : State) : Prop := s.stampedFrom t ∧ s.pagesFrom t

theorem State.sameVram.stamps {s t : State} (h : s.sameVram t) : s.stamps t :=
  ⟨fun a hne => absurd (h.vramAt a) hne, fun p => .inl (h.dirty p)⟩

theorem State.drawsLaw.stamps {s t : State} (hd : s.drawsLaw t) (hc : s.memoriesCanonical) : s.stamps t := by
  obtain ⟨-, -, hmem⟩ := hd
  exact (hmem hc).2

theorem RowEffect.stamps {s t : State} {i : Instr} (he : RowEffect s i t) (hc : s.memoriesCanonical)
    (hi : i ≠ .tick) : s.stamps t := by
  cases he with
  | draws hd => exact (hd.stamps hc :)
  | answers hd => exact (hd.stamps hc :)
  | port => exact (s.portWrite_effect _ _).sameVram.stamps
  | field => exact (s.portStore_effect _ _).sameVram.stamps
  | sub => exact (s.subWrite_effect _ _).sameVram.stamps
  | tick => exact absurd rfl hi

theorem State.tick_vram (s : State) : s.tick.vram = s.vram := by
  have hframe := s.sameButTick_tick
  unfold State.sameButTick at hframe
  rw [hframe]

/-- Settles O12: a row other than the tick draws, or leaves video memory alone; the tick stores no byte. -/
theorem everyChangedByteIsStamped : Obligations.EveryChangedByteIsStamped := by
  intro i s t hc hexec
  refine ⟨?tick, fun hi => (RowEffect.of_exec hexec).stamps hc hi⟩
  case tick =>
    rintro rfl
    rw [exec_tick] at hexec
    cases hexec
    exact s.tick_vram

/-! ## `VramWrite` -/

/-- `t` differs from `s` at most in video memory and its dirty counters. -/
def State.sameButVram (s t : State) : Prop := t = { s with vram := t.vram, changedvram := t.changedvram }

theorem State.sameButVram_trans {s t u : State} (h : s.sameButVram t) (k : t.sameButVram u) : s.sameButVram u := by
  unfold State.sameButVram at *
  rw [k, h]

theorem State.sameButVram_vramWriteByte (s : State) (i : Nat) (v : Byte) : s.sameButVram (s.vramWriteByte i v) := by
  unfold State.vramWriteByte
  split <;> rfl

theorem State.sameButVram_vramWrite (s : State) (a : Nat) (bs : List Byte) : s.sameButVram (s.vramWrite a bs) := by
  induction bs generalizing s a with
  | nil => rfl
  | cons b bs ih => exact State.sameButVram_trans (s.sameButVram_vramWriteByte a b) (ih _ _)

@[simp] theorem State.vramWriteByte_cfg (s : State) (i : Nat) (v : Byte) : (s.vramWriteByte i v).cfg = s.cfg := by
  rw [s.sameButVram_vramWriteByte i v]

@[simp] theorem State.vramWriteByte_raster (s : State) (i : Nat) (v : Byte) :
    (s.vramWriteByte i v).raster = s.raster := by
  rw [s.sameButVram_vramWriteByte i v]

@[simp] theorem State.vramWrite_cfg (s : State) (a : Nat) (bs : List Byte) : (s.vramWrite a bs).cfg = s.cfg := by
  rw [s.sameButVram_vramWrite a bs]

@[simp] theorem State.vramWrite_mapping (s : State) (a : Nat) (bs : List Byte) :
    (s.vramWrite a bs).mapping = s.mapping := by
  rw [s.sameButVram_vramWrite a bs]

/-- What `VramWrite` stores (R71, R75): its bytes, lowest first, and nothing beyond video memory. -/
theorem State.vramAt_vramWrite (s : State) (a : Nat) (bs : List Byte) (i : Nat) :
    (s.vramWrite a bs).vramAt i =
      if a ≤ i ∧ i < a + bs.length ∧ i < HostConfig.vramSize s.cfg then bs.getD (i - a) 0 else s.vramAt i := by
  induction bs generalizing s a with
  | nil => exact (if_neg (by simp; omega)).symm
  | cons b bs ih =>
    rw [State.vramWrite, ih, State.vramAt_vramWriteByte, State.vramWriteByte_cfg, List.length_cons]
    obtain rfl | hne := eq_or_ne i a
    · rw [if_neg (by omega), Nat.sub_self, List.getD_cons_zero]
      exact if_congr (by omega) rfl rfl
    · have hlater : ¬ (i = a ∧ a < HostConfig.vramSize s.cfg) := fun h => hne h.1
      rw [if_neg hlater]
      refine ite_congr (propext (by omega)) (fun h => ?_) fun _ => rfl
      rw [show i - a = i - (a + 1) + 1 by omega, List.getD_cons_succ]

/-- A byte that a write of `n` bytes at `a` stores lies in page `p` (4 KiB). -/
def State.writesPage (s : State) (a n p : Nat) : Prop :=
  ∃ i, a ≤ i ∧ i < a + n ∧ i < HostConfig.vramSize s.cfg ∧ i / 4096 = p

/-- The first byte lies in the page, or one of the rest does. -/
theorem State.writesPage_succ (s : State) (a n p : Nat) :
    s.writesPage a (n + 1) p ↔ (p = a / 4096 ∧ a < HostConfig.vramSize s.cfg) ∨ s.writesPage (a + 1) n p := by
  constructor
  · rintro ⟨i, hlo, hhi, hsize, hpage⟩
    obtain rfl | hne := eq_or_ne i a
    · exact .inl ⟨hpage.symm, hsize⟩
    · exact .inr ⟨i, by omega, by omega, hsize, hpage⟩
  · rintro (⟨hpage, hsize⟩ | ⟨i, hlo, hhi, hsize, hpage⟩)
    · exact ⟨a, Nat.le_refl a, by omega, hsize, hpage.symm⟩
    · exact ⟨i, by omega, by omega, hsize, hpage⟩

theorem State.writesPage_vramWriteByte (s : State) (i : Nat) (v : Byte) (a n p : Nat) :
    (s.vramWriteByte i v).writesPage a n p ↔ s.writesPage a n p := by
  rw [State.writesPage, State.writesPage, State.vramWriteByte_cfg]

theorem shiftRight_pageShift (i : Nat) : i >>> Config.pageShift = i / 4096 := Nat.shiftRight_eq_div_pow i 12

/-- What `VramWrite` stamps (R75): the pages of the bytes it stores. -/
theorem State.dirty_vramWrite {s : State} (hc : s.memoriesCanonical) (a : Nat) (bs : List Byte) (p : Nat) :
    (s.writesPage a bs.length p → (s.vramWrite a bs).dirty p = s.raster.changeframecount) ∧
      (¬ s.writesPage a bs.length p → (s.vramWrite a bs).dirty p = s.dirty p) := by
  induction bs generalizing s a with
  | nil => exact ⟨fun ⟨i, hlo, hhi, _⟩ => absurd hhi (Nat.not_lt.2 hlo), fun _ => rfl⟩
  | cons b bs ih =>
    have hwf : Counters.wf s.changedvram = true := by
      obtain ⟨-, -, hwf, -⟩ := hc
      exact hwf
    have hrest := ih ((s.drawsLaw_vramWriteByte a b).memoriesCanonical hc) (a + 1)
    rw [State.writesPage_vramWriteByte, State.vramWriteByte_raster, State.dirty_vramWriteByte hwf,
      shiftRight_pageShift] at hrest
    rw [State.vramWrite, List.length_cons, State.writesPage_succ]
    by_cases hlater : s.writesPage (a + 1) bs.length p
    · exact ⟨fun _ => hrest.1 hlater, fun hnot => absurd (.inr hlater) hnot⟩
    · rw [hrest.2 hlater]
      exact ⟨fun h => if_pos (h.resolve_right hlater), fun hnot => if_neg fun hfirst => hnot (.inl hfirst)⟩

/-- Settles O32, by induction on the bytes (`State.vramAt_vramWrite`, `State.dirty_vramWrite`). -/
theorem vramWriteStoresAndStamps : Obligations.VramWriteStoresAndStamps := by
  intro s a bs hc
  refine ⟨s.vramAt_vramWrite a bs, fun p => (State.dirty_vramWrite hc a bs p).1, ?others,
    s.sameButVram_vramWrite a bs⟩
  case others =>
    intro p hnone
    exact (State.dirty_vramWrite hc a bs p).2 fun ⟨i, hlo, hhi, hsize, hpage⟩ => hnone i hlo hhi hsize hpage

end Sys2Proof.Machine
end

section
/-! Bytes and words (R71), the accelerator's view of memory (R76, R77), the apertures (R346, R347). -/

namespace Sys2Proof.Machine

/-! ## Bytes and words -/

@[simp] theorem length_bytesOf (w : Word) (n : Nat) : (bytesOf w n).length = n := by
  rw [bytesOf, List.length_map, List.length_range]

theorem lenBytes_pos (len : Len) : 0 < len.bytes := by
  cases len <;> decide

/-- Bit `i` of a little-endian value is bit `i % 8` of byte `i / 8` (R71). -/
theorem getLsbD_leValue (bs : List Byte) {i : Nat} (hi : i < 32) :
    (leValue bs).getLsbD i = (bs.getD (i / 8) 0).getLsbD (i % 8) := by
  induction bs generalizing i with
  | nil => simp [leValue]
  | cons b bs ih =>
    rw [leValue, BitVec.getLsbD_or, BitVec.getLsbD_shiftLeft, BitVec.getLsbD_setWidth]
    by_cases hfirst : i < 8
    · rw [Nat.div_eq_of_lt hfirst, Nat.mod_eq_of_lt hfirst]
      simp [hi, hfirst]
    · obtain ⟨j, rfl⟩ := Nat.exists_eq_add_of_le' (Nat.le_of_not_lt hfirst)
      rw [Nat.add_div_right j (by decide), Nat.add_mod_right, Nat.add_sub_cancel, ih (by omega)]
      simp [hi]

theorem getLsbD_byteLane (w : Word) (k j : Nat) (hj : j < 8) : (byteLane w k).getLsbD j = w.getLsbD (8 * k + j) := by
  rw [byteLane, BitVec.getLsbD_extractLsb', decide_eq_true hj, Bool.true_and]

theorem getLsbD_lowBytes (w : Word) (n : Nat) {i : Nat} (hi : i < 32) :
    (lowBytes w n).getLsbD i = (w.getLsbD i && decide (i < 8 * n)) := by
  rw [lowBytes, BitVec.getLsbD_and, BitVec.getLsbD_ofNat, Nat.testBit_two_pow_sub_one, decide_eq_true hi, Bool.true_and]

theorem getD_bytesOf (w : Word) (n k : Nat) : (bytesOf w n).getD k 0 = if k < n then byteLane w k else 0 := by
  by_cases hk : k < n <;> simp [bytesOf, List.getD_eq_getElem?_getD, hk]

/-- The bytes of a word compose to the word's low bytes again (R71). -/
theorem leValue_bytesOf (w : Word) (n : Nat) : leValue (bytesOf w n) = lowBytes w n := by
  refine BitVec.eq_of_getLsbD_eq fun i hi => ?_
  rw [getLsbD_leValue _ hi, getLsbD_lowBytes w n hi, getD_bytesOf]
  by_cases hin : i < 8 * n
  · rw [if_pos (by omega), getLsbD_byteLane w _ _ (Nat.mod_lt i (by decide)), Nat.div_add_mod, decide_eq_true hin,
      Bool.and_true]
  · rw [if_neg (by omega), decide_eq_false hin, Bool.and_false]
    simp

/-- A little-endian value of at most four bytes, as a number to base 256 (R71). -/
theorem toNat_leValue {bs : List Byte} (h : bs.length ≤ 4) :
    (leValue bs).toNat = Nat.ofDigits 256 (bs.map BitVec.toNat) := by
  induction bs with
  | nil => rfl
  | cons b bs ih =>
    rw [List.length_cons] at h
    have hdigits : ∀ d ∈ bs.map BitVec.toNat, d < 256 := by
      intro d hd
      obtain ⟨c, -, rfl⟩ := List.mem_map.1 hd
      exact c.isLt
    have hsmall : (leValue bs).toNat < 2 ^ 24 := by
      rw [ih (by omega)]
      calc Nat.ofDigits 256 (bs.map BitVec.toNat) < 256 ^ (bs.map BitVec.toNat).length :=
            Nat.ofDigits_lt_base_pow_length (by decide) hdigits
        _ ≤ 256 ^ 3 := Nat.pow_le_pow_right (by decide) (by rw [List.length_map]; omega)
    have hshift : (leValue bs).toNat <<< 8 < 2 ^ 32 := by
      rw [Nat.shiftLeft_eq]
      omega
    rw [List.map_cons, Nat.ofDigits_cons, leValue, BitVec.toNat_or, BitVec.toNat_shiftLeft, Nat.mod_eq_of_lt hshift,
      BitVec.toNat_setWidth_of_le (by decide), Nat.or_comm, ← Nat.shiftLeft_add_eq_or_of_lt b.isLt, Nat.shiftLeft_eq,
      ih (by omega), Nat.add_comm, Nat.mul_comm]

/-- A number to base 256 whose digits are listed by position. -/
theorem ofDigits_map_range (f : Nat → Nat) (n : Nat) :
    Nat.ofDigits 256 ((List.range n).map f) = ((List.range n).map fun k => f k * 256 ^ k).sum := by
  rw [Nat.ofDigits_eq_sum_mapIdx]
  congr 1
  exact List.ext_getElem (by simp) fun k _ _ => by simp

/-- The low `n` bits of a word, as a number. -/
theorem toNat_and_ones (w : Word) {n : Nat} (hn : n ≤ 32) :
    (w &&& BitVec.ofNat 32 (2 ^ n - 1)).toNat = w.toNat % 2 ^ n := by
  have hfits : 2 ^ n - 1 < 2 ^ 32 :=
    (Nat.sub_lt (Nat.two_pow_pos n) (by decide)).trans_le (Nat.pow_le_pow_right (by decide) hn)
  rw [BitVec.toNat_and, BitVec.toNat_ofNat, Nat.mod_eq_of_lt hfits, Nat.and_two_pow_sub_one_eq_mod]

theorem toNat_lowBytes (w : Word) {n : Nat} (hn : n ≤ 4) : (lowBytes w n).toNat = w.toNat % 256 ^ n := by
  rw [lowBytes, toNat_and_ones w (by omega), Nat.pow_mul]

/-! ## The accelerator's view (R76) -/

theorem State.inWindow_iff (s : State) (a : Word) :
    s.inWindow a = true ↔ HostConfig.windowBase s.cfg ≤ a.toNat ∧ a.toNat < HostConfig.windowBase s.cfg + 0x100000 :=
  decide_eq_true_iff

theorem HostConfig.windowBase_eq (c : HostConfig) : HostConfig.windowBase c = c.accelWindowMiB.toNat * 0x100000 :=
  Nat.mul_comm _ _

section
variable {s : State} {a : Word} (h : s.inWindow a = true)
include h

theorem State.accelRead_of_inWindow (n : Nat) :
    s.accelRead a n = (s.vramRead (a.toNat - HostConfig.windowBase s.cfg) n, s) := if_pos h

theorem State.accelWrite_of_inWindow (n : Nat) (v : Word) :
    s.accelWrite a n v = s.vramWrite (a.toNat - HostConfig.windowBase s.cfg) (bytesOf v n) := if_pos h

end

section
variable {s : State} {a : Word} (h : s.inWindow a = false)
include h

theorem State.accelRead_of_not_inWindow (n : Nat) : s.accelRead a n = s.sysRead a n := by
  rw [State.accelRead, h, if_neg Bool.false_ne_true]

theorem State.accelWrite_of_not_inWindow (n : Nat) (v : Word) : s.accelWrite a n v = s.sysWrite a n v := by
  rw [State.accelWrite, h, if_neg Bool.false_ne_true]

end

@[simp] theorem State.length_vramBytes (s : State) (a n : Nat) : (s.vramBytes a n).length = n := by
  rw [State.vramBytes, List.length_map, List.length_range]

@[simp] theorem State.getElem_vramBytes (s : State) (a n k : Nat) (hk : k < (s.vramBytes a n).length) :
    (s.vramBytes a n)[k] = s.vramByte (a + k) := by
  simp only [State.vramBytes, List.getElem_map, List.getElem_range]

/-- A read of at most four bytes is the sum of the bytes by place, the sentinel beyond video memory (R71, R74). -/
theorem State.toNat_vramRead (s : State) (a : Nat) {n : Nat} (hn : n ≤ 4) :
    (s.vramRead a n).toNat = ((List.range n).map fun k =>
      (if a + k < HostConfig.vramSize s.cfg then (s.vramAt (a + k)).toNat else s.cfg.oorByte.toNat) * 256 ^ k).sum := by
  rw [State.vramRead, toNat_leValue ((s.length_vramBytes a n).trans_le hn),
    State.vramBytes, List.map_map, ofDigits_map_range]
  simp only [Function.comp, State.vramByte, apply_ite BitVec.toNat]

/-- Settles O33: the window test picks the side, and each side's access is its own. -/
theorem acceleratorReachesWindowOrSystem : Obligations.AcceleratorReachesWindowOrSystem := by
  intro s a v n hn
  have hn4 : n ≤ 4 := by
    simp only [List.mem_cons, List.not_mem_nil, or_false] at hn
    omega
  dsimp only
  rw [← HostConfig.windowBase_eq]
  constructor
  · intro hlo hhi
    have hin : s.inWindow a = true := (s.inWindow_iff a).2 ⟨hlo, hhi⟩
    rw [State.accelRead_of_inWindow hin]
    exact ⟨rfl, s.toNat_vramRead _ hn4, State.accelWrite_of_inWindow hin n v⟩
  · intro hout
    have hnot : s.inWindow a = false := by
      rw [← Bool.not_eq_true, s.inWindow_iff]
      omega
    have hlow : BitVec.ofNat 32 (v.toNat % 256 ^ n) = lowBytes v n := by
      rw [← toNat_lowBytes v hn4, BitVec.ofNat_toNat, BitVec.setWidth_eq]
    rw [State.accelRead_of_not_inWindow hnot, State.accelWrite_of_not_inWindow hnot, hlow]
    exact ⟨rfl, toNat_lowBytes _ hn4, rfl⟩

/-! ## The apertures (R346, R347) -/

theorem exec_apw (addr : Word) (len : Len) (val : Word) (s : State) :
    exec (.apw addr len val) s = .next (s.apertureWrite addr.toNat (bytesOf val len.bytes)) := rfl

theorem exec_apr (addr : Word) (len : Len) (s : State) :
    exec (.apr addr len) s = .next (s.respond (.data (s.apertureRead addr.toNat len.bytes))) := rfl

theorem State.apertureOffset_banked {s : State} {base : Word} (hm : s.mapping = .banked base) {addr : Nat}
    (hlo : base.toNat ≤ addr) (hhi : addr < base.toNat + 0x10000) :
    s.apertureOffset addr =
      some (s.ext.apIdx.toNat * 0x10000 + ((addr - base.toNat) &&& s.ext.bankedMask.toNat)) := by
  unfold State.apertureOffset
  rw [hm]
  dsimp only
  rw [if_pos ⟨hlo, hhi⟩, Nat.shiftLeft_eq]

theorem State.apertureOffset_linear {s : State} {base : Word} {size : Nat} (hm : s.mapping = .linear base size)
    {addr : Nat} (hlo : base.toNat ≤ addr) (hhi : addr < base.toNat + size) :
    s.apertureOffset addr = some (addr - base.toNat) := by
  unfold State.apertureOffset
  rw [hm]
  exact if_pos ⟨hlo, hhi⟩

theorem State.apertureOffset_unmapped {s : State} (hm : s.mapping = .unmapped) (addr : Nat) :
    s.apertureOffset addr = none := by
  unfold State.apertureOffset
  rw [hm]

theorem State.apertureWhole_of_offsets {s : State} {addr n off last : Nat} (hfirst : s.apertureOffset addr = some off)
    (hlast : s.apertureOffset (addr + (n - 1)) = some last) : s.apertureWhole addr n = true := by
  rw [State.apertureWhole, hfirst, hlast]
  rfl

section
variable {s : State} {addr : Word} {len : Len} {off last : Nat} (hfirst : s.apertureOffset addr.toNat = some off)
  (hlast : s.apertureOffset (addr.toNat + (len.bytes - 1)) = some last)
include hfirst hlast

/-- A write whose first and last byte lie inside the window is one `VramWrite`. -/
theorem exec_apw_of_offsets (val : Word) :
    exec (.apw addr len val) s = .next (s.vramWrite off (bytesOf val len.bytes)) := by
  rw [exec_apw]
  unfold State.apertureWrite
  rw [length_bytesOf, State.apertureWhole_of_offsets hfirst hlast, hfirst]

/-- A read whose first and last byte lie inside the window is one `VramRead`. -/
theorem exec_apr_of_offsets :
    exec (.apr addr len) s = .next { s with answer := .data ((s.vramBytes off len.bytes).map some) } := by
  rw [exec_apr]
  unfold State.apertureRead
  rw [State.apertureWhole_of_offsets hfirst hlast, hfirst]
  rfl

end

theorem exec_aperture_banked {s : State} {base : Word} (hm : s.mapping = .banked base) {addr : Word} {len : Len}
    (hlo : base.toNat ≤ addr.toNat) (hhi : addr.toNat + len.bytes ≤ base.toNat + 0x10000) (val : Word) :
    let off : Nat := s.ext.apIdx.toNat * 0x10000 + ((addr.toNat - base.toNat) &&& s.ext.bankedMask.toNat)
    exec (.apw addr len val) s = .next (s.vramWrite off (bytesOf val len.bytes)) ∧
      exec (.apr addr len) s = .next { s with answer := .data ((s.vramBytes off len.bytes).map some) } := by
  have hpos := lenBytes_pos len
  have hfirst := State.apertureOffset_banked hm hlo (by omega)
  have hlast := State.apertureOffset_banked hm (addr := addr.toNat + (len.bytes - 1)) (by omega) (by omega)
  exact ⟨exec_apw_of_offsets hfirst hlast val, exec_apr_of_offsets hfirst hlast⟩

theorem exec_aperture_linear {s : State} {base : Word} {size : Nat} (hm : s.mapping = .linear base size) {addr : Word}
    {len : Len} (hlo : base.toNat ≤ addr.toNat) (hhi : addr.toNat + len.bytes ≤ base.toNat + size) (val : Word) :
    let off : Nat := addr.toNat - base.toNat
    exec (.apw addr len val) s = .next (s.vramWrite off (bytesOf val len.bytes)) ∧
      exec (.apr addr len) s = .next { s with answer := .data ((s.vramBytes off len.bytes).map some) } := by
  have hpos := lenBytes_pos len
  have hfirst := State.apertureOffset_linear hm hlo (by omega)
  have hlast := State.apertureOffset_linear hm (addr := addr.toNat + (len.bytes - 1)) (by omega) (by omega)
  exact ⟨exec_apw_of_offsets hfirst hlast val, exec_apr_of_offsets hfirst hlast⟩

theorem State.apertureWhole_of_unmapped {s : State} (hm : s.mapping = .unmapped) (addr n : Nat) :
    s.apertureWhole addr n = false := by
  rw [State.apertureWhole, State.apertureOffset_unmapped hm]
  rfl

theorem State.apertureWriteBytes_of_unmapped {s : State} (hm : s.mapping = .unmapped) (addr : Nat) (bs : List Byte) :
    s.apertureWriteBytes addr bs = s := by
  induction bs generalizing addr with
  | nil => rfl
  | cons b bs ih =>
    rw [State.apertureWriteBytes, State.apertureWriteByte, State.apertureOffset_unmapped hm]
    exact ih (addr + 1)

/-- With no window mapped a write is no event of this device (R356, log 19). -/
theorem State.apertureWrite_of_unmapped {s : State} (hm : s.mapping = .unmapped) (addr : Nat) (bs : List Byte) :
    s.apertureWrite addr bs = s := by
  unfold State.apertureWrite
  rw [State.apertureWhole_of_unmapped hm]
  exact State.apertureWriteBytes_of_unmapped hm addr bs

/-- With no window mapped a read gets no byte from this device (R356, log 19). -/
theorem State.apertureRead_of_unmapped {s : State} (hm : s.mapping = .unmapped) (addr n : Nat) :
    s.apertureRead addr n = List.replicate n none := by
  unfold State.apertureRead State.apertureByte
  simp only [State.apertureWhole_of_unmapped hm, State.apertureOffset_unmapped hm, Option.map_none,
    List.map_const', List.length_range]

theorem State.map_some_vramBytes (s : State) (off n : Nat) :
    (s.vramBytes off n).map some =
      (List.range n).map fun k =>
        some (if off + k < HostConfig.vramSize s.cfg then s.vramAt (off + k) else s.cfg.oorByte) :=
  List.map_map

/-- Settles O34, by the window that is mapped. -/
theorem apertureAccessGoesToVideoMemory : Obligations.ApertureAccessGoesToVideoMemory := by
  intro s addr len val
  dsimp only
  simp only [← State.map_some_vramBytes]
  refine ⟨fun base hm hlo hhi => ?banked, fun base size hm hlo hhi => ?linear, fun hm => ?unmapped⟩
  case banked => exact exec_aperture_banked hm hlo hhi val
  case linear => exact exec_aperture_linear hm hlo hhi val
  case unmapped =>
    rw [exec_apw, exec_apr, State.apertureWrite_of_unmapped hm, State.apertureRead_of_unmapped hm]
    exact ⟨rfl, rfl⟩

/-- Inside video memory the bytes that `VramWrite` stored are those that `VramRead` finds (R71). -/
theorem State.vramBytes_vramWrite {s : State} {a : Nat} {bs : List Byte}
    (h : a + bs.length ≤ HostConfig.vramSize s.cfg) : (s.vramWrite a bs).vramBytes a bs.length = bs := by
  refine List.ext_getElem (State.length_vramBytes _ _ _) fun k _ hk => ?_
  have hsize : a + k < HostConfig.vramSize s.cfg := by omega
  have hstored : a ≤ a + k ∧ a + k < a + bs.length ∧ a + k < HostConfig.vramSize s.cfg := by omega
  rw [State.getElem_vramBytes, State.vramByte, State.vramWrite_cfg, if_pos hsize,
    State.vramAt_vramWrite, if_pos hstored, Nat.add_sub_cancel_left, List.getD_eq_getElem]

/-- Settles O35: the write and the read are one access of the same bytes of video memory. -/
theorem apertureWriteReadsBack : Obligations.ApertureWriteReadsBack := by
  intro s addr len val base size _ hm hlo hhi hsize
  have hread := State.vramBytes_vramWrite (s := s) (a := addr.toNat - base.toNat) (bs := bytesOf val len.bytes)
    (by rw [length_bytesOf]; omega)
  rw [length_bytesOf] at hread
  obtain ⟨hwrite, -⟩ := exec_aperture_linear hm hlo hhi val
  refine ⟨_, hwrite, ?_⟩
  obtain ⟨-, hanswer⟩ := exec_aperture_linear ((s.vramWrite_mapping _ _).trans hm) hlo hhi val
  rw [hanswer, hread]

end Sys2Proof.Machine
end

section
/-! What a pixel write changes (R75, R76, R135 to R140), and what the next read of the pixel finds (R137). -/

namespace Sys2Proof.Machine

/-! ## What a pixel write can do -/

/-- The byte of a 1-bit pixel after a write of `v` at bit `p` (R135). -/
def mergePixelBit (old : Byte) (p : Nat) (v : Word) : Byte :=
  byteLane ((old.setWidth 32 &&& ~~~(1#32 <<< p)) ||| ((v &&& 1) <<< p)) 0

/-- What a write of pixel `(x, y)` can do: nothing at a reserved depth (R139), a write of video memory inside the
accelerator's window, a call to the host outside it (R76). -/
inductive PixelWriteEffect (s : State) (d : MapDesc) (x y : Int) (v : Word) : State → Prop where
  | reserved (hat : pixelAt s.cfg d x y = none) : PixelWriteEffect s d x y v s
  | inside {a : Word} {bs : List Byte} (hat : pixelAt s.cfg d x y = some (a, bs.length)) (hin : s.inWindow a = true)
      (hbit : depthOf d.format = .one →
        bs = [mergePixelBit (s.vramByte (a.toNat - HostConfig.windowBase s.cfg)) (s.bitpos d x) v]) :
      PixelWriteEffect s d x y v (s.vramWrite (a.toNat - HostConfig.windowBase s.cfg) bs)
  | outside {a : Word} {n : Nat} (hat : pixelAt s.cfg d x y = some (a, n)) (hout : s.inWindow a = false)
      (reads : Nat) (w : Word) :
      PixelWriteEffect s d x y v { s with sysReads := reads, outputs := .sysWrite a n w :: s.outputs }

section
variable {d : MapDesc} (s : State) (x y : Int)

theorem pixelAt_one (h : depthOf d.format = .one) : pixelAt s.cfg d x y = some (addr1 s.cfg d x y, 1) := by
  unfold pixelAt; rw [h]

theorem pixelAt_eight (h : depthOf d.format = .eight) : pixelAt s.cfg d x y = some (addr8 s.cfg d x y, 1) := by
  unfold pixelAt; rw [h]

theorem pixelAt_sixteen (h : depthOf d.format = .sixteen) : pixelAt s.cfg d x y = some (addr16 s.cfg d x y, 2) := by
  unfold pixelAt; rw [h]

theorem pixelAt_reserved (h : depthOf d.format = .reserved) : pixelAt s.cfg d x y = none := by
  unfold pixelAt; rw [h]

end

theorem State.vramRead_one (s : State) (a : Nat) : s.vramRead a 1 = (s.vramByte a).setWidth 32 := by
  simp [State.vramRead, State.vramBytes, leValue]

/-- A 1-bit pixel inside the window is written by one byte, its bit merged in (R135). -/
theorem State.writePixelOf_one_inside {s : State} {d : MapDesc} {x y : Int} (hd : depthOf d.format = .one)
    (hin : s.inWindow (addr1 s.cfg d x y) = true) (v : Word) :
    s.writePixelOf d x y v =
      s.vramWrite ((addr1 s.cfg d x y).toNat - HostConfig.windowBase s.cfg)
        [mergePixelBit (s.vramByte ((addr1 s.cfg d x y).toNat - HostConfig.windowBase s.cfg)) (s.bitpos d x) v] := by
  rw [State.writePixelOf_one hd, State.accelRead_of_inWindow hin, State.accelWrite_of_inWindow hin, State.vramRead_one]
  rfl

/-- A write of `n` bytes of the accelerator, by the side that its address lies on. -/
theorem PixelWriteEffect.of_accelWrite {s : State} {d : MapDesc} {x y : Int} {a : Word} {n : Nat} (v w : Word)
    (hat : pixelAt s.cfg d x y = some (a, n)) (hd : depthOf d.format ≠ .one) :
    PixelWriteEffect s d x y v (s.accelWrite a n w) := by
  cases hin : s.inWindow a with
  | true =>
    rw [State.accelWrite_of_inWindow hin]
    exact .inside (by rw [length_bytesOf]; exact hat) hin fun hone => absurd hone hd
  | false =>
    rw [State.accelWrite_of_not_inWindow hin]
    exact .outside hat hin s.sysReads _

theorem State.writePixelOf_effect (s : State) (d : MapDesc) (x y : Int) (v : Word) :
    PixelWriteEffect s d x y v (s.writePixelOf d x y v) := by
  cases hd : depthOf d.format with
  | one =>
    have hat := pixelAt_one s x y hd
    cases hin : s.inWindow (addr1 s.cfg d x y) with
    | true =>
      rw [State.writePixelOf_one_inside hd hin]
      exact .inside hat hin fun _ => rfl
    | false =>
      have hread := State.accelRead_of_not_inWindow hin 1
      have hin' : (s.sysRead (addr1 s.cfg d x y) 1).2.inWindow (addr1 s.cfg d x y) = false := hin
      rw [State.writePixelOf_one hd, hread, State.accelWrite_of_not_inWindow hin']
      exact .outside hat hin (s.sysReads + 1) _
  | eight =>
    rw [State.writePixelOf_eight hd]
    exact .of_accelWrite v _ (pixelAt_eight s x y hd) (by rw [hd]; decide)
  | sixteen =>
    rw [State.writePixelOf_sixteen hd]
    exact .of_accelWrite v _ (pixelAt_sixteen s x y hd) (by rw [hd]; decide)
  | reserved =>
    rw [State.writePixelOf_reserved hd]
    exact .reserved (pixelAt_reserved s x y hd)

/-! ## The frame of a pixel write -/

theorem State.not_pixelByte_reserved {s : State} {d : MapDesc} {x y : Int} (hat : pixelAt s.cfg d x y = none)
    (b : Nat) : ¬ s.pixelByte d x y b := by
  rintro ⟨a, n, hat', -⟩
  rw [hat] at hat'
  cases hat'

theorem State.not_pixelByte_outside {s : State} {d : MapDesc} {x y : Int} {a : Word} {n : Nat}
    (hat : pixelAt s.cfg d x y = some (a, n)) (hout : s.inWindow a = false) (b : Nat) : ¬ s.pixelByte d x y b := by
  rintro ⟨a', n', hat', hin, -⟩
  rw [hat] at hat'
  cases hat'
  exact Bool.false_ne_true (hout.symm.trans hin)

/-- Inside the window a pixel's bytes are those of the write at its offset, as far as video memory reaches. -/
theorem State.pixelByte_inside {s : State} {d : MapDesc} {x y : Int} {a : Word} {n : Nat}
    (hat : pixelAt s.cfg d x y = some (a, n)) (hin : s.inWindow a = true) (b : Nat) :
    s.pixelByte d x y b ↔
      a.toNat - HostConfig.windowBase s.cfg ≤ b ∧ b < a.toNat - HostConfig.windowBase s.cfg + n ∧
        b < HostConfig.vramSize s.cfg := by
  have hwindow := (s.inWindow_iff a).1 hin
  constructor
  · rintro ⟨a', n', hat', -, hsize, hhi, hlo⟩
    rw [hat] at hat'
    cases hat'
    omega
  · rintro ⟨hlo, hhi, hsize⟩
    exact ⟨a, n, hat, hin, hsize, by omega, by omega⟩

theorem getLsbD_and_one (v : Word) (j : Nat) : (v &&& 1).getLsbD j = (decide (j = 0) && v.getLsbD 0) := by
  rw [BitVec.getLsbD_and]
  obtain rfl | hj := eq_or_ne j 0
  · simp
  · simp [hj]

/-- The lowest bit of a word, moved to bit `p`. -/
theorem getLsbD_and_one_shiftLeft (v : Word) (p : Nat) {k : Nat} (hk : k < 32) :
    ((v &&& 1) <<< p).getLsbD k = (decide (k = p) && v.getLsbD 0) := by
  rw [BitVec.getLsbD_shiftLeft, getLsbD_and_one, decide_eq_true hk, Bool.true_and]
  by_cases hlt : k < p
  · simp [hlt, hlt.ne]
  · have hiff : k - p = 0 ↔ k = p := by omega
    simp [hlt, hiff]

/-- The merge of a 1-bit pixel replaces its bit and keeps the others of its byte (R135). -/
theorem getLsbD_mergePixelBit (old : Byte) (p : Nat) (v : Word) {k : Nat} (hk : k < 8) :
    (mergePixelBit old p v).getLsbD k = if k = p then v.getLsbD 0 else old.getLsbD k := by
  have hk32 : 8 * 0 + k < 32 := by omega
  have hmask : (1#32 <<< p).getLsbD (8 * 0 + k) = decide (8 * 0 + k = p) := by
    simpa using getLsbD_and_one_shiftLeft 1 p hk32
  rw [mergePixelBit, getLsbD_byteLane _ 0 k hk, BitVec.getLsbD_or, BitVec.getLsbD_and, BitVec.getLsbD_not, hmask,
    getLsbD_and_one_shiftLeft v p hk32, BitVec.getLsbD_setWidth]
  obtain rfl | hne := eq_or_ne k p
  · simp
  · simp [hne, show k < 32 by omega]

/-- A write of a 1-bit pixel keeps every bit but the pixel's (R135). -/
theorem PixelWriteEffect.getLsbD_vramAt {s t : State} {d : MapDesc} {x y : Int} {v : Word}
    (he : PixelWriteEffect s d x y v t) (hd : depthOf d.format = .one) (b : Nat) {k : Nat} (hk : k ≠ s.bitpos d x) :
    (t.vramAt b).getLsbD k = (s.vramAt b).getLsbD k := by
  cases he with
  | reserved => rfl
  | outside => rfl
  | @inside a bs hat hin hbit =>
    rw [hbit hd, State.vramAt_vramWrite]
    split
    · next hb =>
      obtain ⟨hlo, hhi, hsize⟩ := hb
      rw [List.length_singleton] at hhi
      obtain rfl : b = a.toNat - HostConfig.windowBase s.cfg := by omega
      rw [Nat.sub_self, List.getD_cons_zero, State.vramByte, if_pos hsize]
      by_cases hk8 : k < 8
      · rw [getLsbD_mergePixelBit _ _ _ hk8, if_neg hk]
      · rw [BitVec.getLsbD_of_ge _ k (by omega), BitVec.getLsbD_of_ge _ k (by omega)]
    · rfl

/-- A pixel write stores no byte but the pixel's (R75, R76). -/
theorem PixelWriteEffect.vramAt_other {s t : State} {d : MapDesc} {x y : Int} {v : Word}
    (he : PixelWriteEffect s d x y v t) {b : Nat} (hb : ¬ s.pixelByte d x y b) : t.vramAt b = s.vramAt b := by
  cases he with
  | reserved => rfl
  | outside => rfl
  | inside hat hin =>
    rw [State.pixelByte_inside hat hin] at hb
    rw [State.vramAt_vramWrite, if_neg hb]

/-- The page holds a byte of the pixel. -/
def State.pixelPage (s : State) (d : MapDesc) (x y : Int) (p : Nat) : Prop :=
  ∃ b, s.pixelByte d x y b ∧ b / 4096 = p

/-- A pixel write stamps the pages of the pixel's bytes and no other (R75). -/
theorem PixelWriteEffect.dirty {s t : State} {d : MapDesc} {x y : Int} {v : Word} (he : PixelWriteEffect s d x y v t)
    (hc : s.memoriesCanonical) (p : Nat) :
    (s.pixelPage d x y p → t.dirty p = s.raster.changeframecount) ∧
      (¬ s.pixelPage d x y p → t.dirty p = s.dirty p) := by
  cases he with
  | reserved hat => exact ⟨fun ⟨b, hb, _⟩ => absurd hb (State.not_pixelByte_reserved hat b), fun _ => rfl⟩
  | outside hat hout => exact ⟨fun ⟨b, hb, _⟩ => absurd hb (State.not_pixelByte_outside hat hout b), fun _ => rfl⟩
  | @inside a bs hat hin =>
    have hpage : s.pixelPage d x y p ↔ s.writesPage (a.toNat - HostConfig.windowBase s.cfg) bs.length p := by
      simp only [State.pixelPage, State.writesPage, State.pixelByte_inside hat hin, and_assoc]
    rw [hpage]
    exact State.dirty_vramWrite hc _ bs p

/-- A pixel write changes video memory, its dirty counters and the host's lists (R75, R77). -/
theorem PixelWriteEffect.frame {s t : State} {d : MapDesc} {x y : Int} {v : Word} (he : PixelWriteEffect s d x y v t) :
    t = { s with vram := t.vram, changedvram := t.changedvram, outputs := t.outputs, sysReads := t.sysReads } := by
  cases he with
  | reserved => rfl
  | outside => rfl
  | @inside a bs =>
    have hframe := s.sameButVram_vramWrite (a.toNat - HostConfig.windowBase s.cfg) bs
    unfold State.sameButVram at hframe
    rw [hframe]

/-- Settles O37, from what a pixel write can do (`State.writePixelOf_effect`). -/
theorem pixelWriteFrame : Obligations.PixelWriteFrame := by
  intro s m x y v hc
  have he := s.writePixelOf_effect (s.mapDesc m) x y v
  refine ⟨fun b hb => he.vramAt_other hb, fun hd b k hk => he.getLsbD_vramAt hd b hk,
    fun b hb => (he.dirty hc _).1 ⟨b, hb, rfl⟩, fun p hnone => (he.dirty hc p).2 ?other, ?calls, he.frame⟩
  case other =>
    rintro ⟨b, hb, hp⟩
    exact hnone b hb hp
  case calls =>
    obtain ⟨-, hcalls, -⟩ := s.drawsLaw_writePixel m x y v
    exact hcalls

/-! ## A pixel reads back as it was written -/

theorem State.vramRead_vramWrite {s : State} {a : Nat} {bs : List Byte}
    (h : a + bs.length ≤ HostConfig.vramSize s.cfg) : (s.vramWrite a bs).vramRead a bs.length = leValue bs := by
  rw [State.vramRead, State.vramBytes_vramWrite h]

theorem State.vramByte_vramWrite_singleton {s : State} {a : Nat} (h : a < HostConfig.vramSize s.cfg) (b : Byte) :
    (s.vramWrite a [b]).vramByte a = b := by
  rw [State.vramByte, State.vramWrite_cfg, if_pos h, State.vramAt_vramWrite,
    if_pos ⟨Nat.le_refl a, Nat.lt_succ_self a, h⟩, Nat.sub_self, List.getD_cons_zero]

/-- Inside the window and inside video memory the accelerator reads the low bytes that it wrote (R71, R76). -/
theorem State.accelRead_accelWrite {s : State} {a : Word} {n : Nat} (hin : s.inWindow a = true)
    (hsize : a.toNat - HostConfig.windowBase s.cfg + n ≤ HostConfig.vramSize s.cfg) (w : Word) :
    (s.accelWrite a n w).accelRead a n = (lowBytes w n, s.accelWrite a n w) := by
  have hin' : (s.accelWrite a n w).inWindow a = true := by
    rw [State.accelWrite_of_inWindow hin, State.inWindow, State.vramWrite_cfg]
    exact hin
  rw [State.accelRead_of_inWindow hin', State.accelWrite_of_inWindow hin, State.vramWrite_cfg]
  have hread := State.vramRead_vramWrite (s := s) (a := a.toNat - HostConfig.windowBase s.cfg) (bs := bytesOf w n)
    (by rw [length_bytesOf]; exact hsize)
  rw [length_bytesOf, leValue_bytesOf] at hread
  rw [hread]

theorem State.bitpos_lt (s : State) (d : MapDesc) (x : Int) : s.bitpos d x < 8 := by
  unfold State.bitpos
  dsimp only
  split
  · omega
  · split
    · split <;> omega
    · omega

section
variable (s : State) (d : MapDesc) (x y : Int) (v : Word)

theorem State.writePixelOf_cfg : (s.writePixelOf d x y v).cfg = s.cfg := by
  rw [(s.writePixelOf_effect d x y v).frame]

theorem State.writePixelOf_acc : (s.writePixelOf d x y v).acc = s.acc := by
  rw [(s.writePixelOf_effect d x y v).frame]

theorem State.writePixelOf_flags : (s.writePixelOf d x y v).flags = s.flags := by
  rw [(s.writePixelOf_effect d x y v).frame]

theorem State.writePixelOf_ext : (s.writePixelOf d x y v).ext = s.ext := by
  rw [(s.writePixelOf_effect d x y v).frame]

theorem State.bitpos_writePixelOf : (s.writePixelOf d x y v).bitpos d x = s.bitpos d x := by
  rw [State.bitpos, State.bitpos, State.writePixelOf_cfg, State.writePixelOf_flags, State.writePixelOf_ext]

theorem State.orient16_writePixelOf (w : Word) : (s.writePixelOf d x y v).orient16 w = s.orient16 w := by
  rw [State.orient16, State.orient16, State.swapped, State.swapped, State.writePixelOf_cfg, State.writePixelOf_flags,
    State.writePixelOf_ext]

theorem State.mapDesc_writePixelOf (m : BitVec 2) : (s.writePixelOf d x y v).mapDesc m = s.mapDesc m := by
  rw [State.mapDesc, State.mapDesc, State.writePixelOf_acc]

end

/-- A swap undoes a swap (R137). -/
theorem bswap16_bswap16 (w : Half) : bswap16 (bswap16 w) = w := by
  refine BitVec.eq_of_getLsbD_eq fun i hi => ?_
  simp only [bswap16, BitVec.getLsbD_append, BitVec.getLsbD_extractLsb']
  by_cases h8 : i < 8
  · simp [h8]
  · have hhigh : i - 8 < 8 := by omega
    simp [h8, hhigh, Nat.add_sub_cancel' (Nat.le_of_not_lt h8)]

theorem extractLsb'_lowBytes_two (w : Word) : (lowBytes w 2).extractLsb' 0 16 = w.extractLsb' 0 16 := by
  refine BitVec.eq_of_getLsbD_eq fun i hi => ?_
  rw [BitVec.getLsbD_extractLsb', BitVec.getLsbD_extractLsb', getLsbD_lowBytes w 2 (by omega)]
  simp [hi]

theorem extractLsb'_setWidth_half (h : Half) : (h.setWidth 32).extractLsb' 0 16 = h := by
  refine BitVec.eq_of_getLsbD_eq fun i hi => ?_
  simp [hi, show i < 32 by omega]

theorem setWidth_extractLsb'_half (w : Word) : (w.extractLsb' 0 16).setWidth 32 = w &&& 0xFFFF := by
  refine BitVec.eq_of_getLsbD_eq fun i hi => ?_
  rw [show w &&& 0xFFFF = lowBytes w 2 from rfl, getLsbD_lowBytes w 2 hi, BitVec.getLsbD_setWidth,
    BitVec.getLsbD_extractLsb', decide_eq_true hi, Bool.true_and, Bool.and_comm, Nat.zero_add]

theorem State.extractLsb'_orient16 (s : State) (w : Word) :
    (s.orient16 w).extractLsb' 0 16 = if s.swapped then bswap16 (w.extractLsb' 0 16) else w.extractLsb' 0 16 := by
  unfold State.orient16
  split <;> exact extractLsb'_setWidth_half _

/-- A 16-bit value that is stored and read under the same swap keeps its 16 bits (R137). -/
theorem State.orient16_orient16 (s : State) (v : Word) : s.orient16 (lowBytes (s.orient16 v) 2) = v &&& 0xFFFF := by
  rw [State.orient16, extractLsb'_lowBytes_two, State.extractLsb'_orient16, ← setWidth_extractLsb'_half]
  split
  · rw [bswap16_bswap16]
  · rfl

/-- The bit merged into a byte is read back at its place (R134, R135). -/
theorem mergePixelBit_shiftRight (old : Byte) {p : Nat} (hp : p < 8) (v : Word) :
    ((mergePixelBit old p v).setWidth 32 >>> p) &&& 1 = v &&& 1 := by
  have hbit : ((mergePixelBit old p v).setWidth 32 >>> p).getLsbD 0 = v.getLsbD 0 := by
    rw [BitVec.getLsbD_ushiftRight, BitVec.getLsbD_setWidth, Nat.add_zero, getLsbD_mergePixelBit old p v hp, if_pos rfl,
      decide_eq_true (by omega), Bool.true_and]
  refine BitVec.eq_of_getLsbD_eq fun i _ => ?_
  rw [getLsbD_and_one, getLsbD_and_one, hbit]

section
variable {s : State} {d : MapDesc} {x y : Int} (v : Word)

/-- A 1-bit pixel reads back (R134, R135). -/
theorem State.readPixelOf_writePixelOf_one (hd : depthOf d.format = .one) (hin : s.inWindow (addr1 s.cfg d x y) = true)
    (hsize : (addr1 s.cfg d x y).toNat - HostConfig.windowBase s.cfg + 1 ≤ HostConfig.vramSize s.cfg) :
    (s.writePixelOf d x y v).readPixelOf d x y = (v &&& 1, s.writePixelOf d x y v) := by
  have hin' : (s.writePixelOf d x y v).inWindow (addr1 s.cfg d x y) = true := by
    rw [State.inWindow, State.writePixelOf_cfg]
    exact hin
  have hbyte : (s.writePixelOf d x y v).vramByte ((addr1 s.cfg d x y).toNat - HostConfig.windowBase s.cfg) =
      mergePixelBit (s.vramByte ((addr1 s.cfg d x y).toNat - HostConfig.windowBase s.cfg)) (s.bitpos d x) v := by
    rw [State.writePixelOf_one_inside hd hin, State.vramByte_vramWrite_singleton hsize]
  rw [State.readPixelOf_one hd, State.writePixelOf_cfg, State.accelRead_of_inWindow hin', State.writePixelOf_cfg,
    State.bitpos_writePixelOf, State.vramRead_one, hbyte, mergePixelBit_shiftRight _ (s.bitpos_lt d x)]

/-- An 8-bit pixel reads back (R136). -/
theorem State.readPixelOf_writePixelOf_eight (hd : depthOf d.format = .eight)
    (hin : s.inWindow (addr8 s.cfg d x y) = true)
    (hsize : (addr8 s.cfg d x y).toNat - HostConfig.windowBase s.cfg + 1 ≤ HostConfig.vramSize s.cfg) :
    (s.writePixelOf d x y v).readPixelOf d x y = (v &&& 0xFF, s.writePixelOf d x y v) := by
  rw [State.readPixelOf_eight hd, State.writePixelOf_cfg, State.writePixelOf_eight hd,
    State.accelRead_accelWrite hin hsize]
  rfl

/-- A 16-bit pixel reads back, whatever the swap (R137). -/
theorem State.readPixelOf_writePixelOf_sixteen (hd : depthOf d.format = .sixteen)
    (hin : s.inWindow (addr16 s.cfg d x y) = true)
    (hsize : (addr16 s.cfg d x y).toNat - HostConfig.windowBase s.cfg + 2 ≤ HostConfig.vramSize s.cfg) :
    (s.writePixelOf d x y v).readPixelOf d x y = (v &&& 0xFFFF, s.writePixelOf d x y v) := by
  rw [State.readPixelOf_sixteen hd, State.orient16_writePixelOf, State.writePixelOf_cfg, State.writePixelOf_sixteen hd,
    State.accelRead_accelWrite hin hsize, State.orient16_orient16]

end

/-- Settles O38, by the pixel's depth. -/
theorem pixelWriteReadsBack : Obligations.PixelWriteReadsBack := by
  intro s m x y v a n _ hat hin hsize
  dsimp only
  rw [State.readPixel, State.writePixel, State.mapDesc_writePixelOf]
  cases hd : depthOf (s.mapDesc m).format with
  | one =>
    obtain ⟨rfl, rfl⟩ := Prod.mk.inj (Option.some.inj ((pixelAt_one s x y hd).symm.trans hat))
    exact State.readPixelOf_writePixelOf_one v hd hin hsize
  | eight =>
    obtain ⟨rfl, rfl⟩ := Prod.mk.inj (Option.some.inj ((pixelAt_eight s x y hd).symm.trans hat))
    exact State.readPixelOf_writePixelOf_eight v hd hin hsize
  | sixteen =>
    obtain ⟨rfl, rfl⟩ := Prod.mk.inj (Option.some.inj ((pixelAt_sixteen s x y hd).symm.trans hat))
    exact State.readPixelOf_writePixelOf_sixteen v hd hin hsize
  | reserved =>
    rw [pixelAt_reserved s x y hd] at hat
    cases hat

end Sys2Proof.Machine
end

section
/-! Reads of the register block (R259): the rows that make them, and the bits that the default map's registers hold
(R252, R255). -/

namespace Sys2Proof.Machine

/-! ## The rows that read -/

theorem exec_rd (off : BitVec 7) (len : Len) (s : State) : exec (.rd off len) s = .next (s.rd off.toNat len) := rfl

/-- A register's row is the access at that register's place in the map (log 31). -/
theorem exec_regRow {r : AccReg} {row : RegAccess → Instr} (hrow : (r, row) ∈ regRows) (acc : RegAccess) (s : State) :
    exec (row acc) s = .next (s.accessRegister r acc) := by
  unfold regRows at hrow
  fin_cases hrow <;> rfl

theorem State.rd_eq (s : State) (off : Nat) (len : Len) :
    s.rd off len = { s with answer := .data ((List.range len.bytes).map fun k => some (s.rdByte (off + k))) } := by
  rw [State.rd, State.rdBytes, List.map_map]
  rfl

/-- The block ends at 0x7f, under any map (R252). -/
theorem accLane_of_beyond (m : List AccEntry) {o : Nat} (h : 0x80 ≤ o) : accLane m o = none := if_pos (by omega)

theorem State.rdByte_of_none {s : State} {o : Nat} (h : accLane s.cfg.accelRegMap o = none) : s.rdByte o = 0 := by
  rw [State.rdByte, h]

theorem State.rdByte_of_some {s : State} {o : Nat} {r : AccReg} {lane : Nat}
    (h : accLane s.cfg.accelRegMap o = some (r, lane)) : s.rdByte o = byteLane (accGet s.acc r) lane := by
  rw [State.rdByte, h]

/-- Beyond the block every byte reads 0. -/
theorem State.rd_of_beyond (s : State) {off : Nat} (h : 0x80 ≤ off) (len : Len) :
    s.rd off len = { s with answer := .data (List.replicate len.bytes (some 0)) } := by
  have hzero (k : Nat) : s.rdByte (off + k) = 0 := State.rdByte_of_none (accLane_of_beyond _ (by omega))
  simp only [State.rd_eq, hzero, List.map_const', List.length_range]

/-! ## The bits a register holds -/

/-- How many bits a register holds (R26, R27, R30, R252). -/
def accWidth : AccReg → Nat
  | .pxMapIdx => 2
  | .ccCond => 3
  | .mapFormat => 4
  | .frgdMix | .bkgdMix => 8
  | .mapBase | .shortStroke | .colorCmp | .planeMask | .frgdColor | .bkgdColor | .command => 32
  | _ => 16

theorem toNat_setWidth_lt {n : Nat} (x : BitVec n) : (x.setWidth 32).toNat < 2 ^ n := by
  rw [BitVec.toNat_setWidth]
  exact (Nat.mod_le _ _).trans_lt x.isLt

/-- A register reads as no more than its bits. -/
theorem accGet_lt (a : Accel) (r : AccReg) : (accGet a r).toNat < 2 ^ accWidth r := by
  cases r with
  | mapBase | shortStroke | colorCmp | planeMask | frgdColor | bkgdColor | command => exact BitVec.isLt _
  | _ => exact toNat_setWidth_lt _

theorem byteLane_and (v w : Word) (k : Nat) : byteLane (v &&& w) k = byteLane v k &&& byteLane w k :=
  BitVec.extractLsb'_and

theorem and_ones_of_lt {w : Word} {n : Nat} (hn : n ≤ 32) (h : w.toNat < 2 ^ n) :
    w &&& BitVec.ofNat 32 (2 ^ n - 1) = w :=
  BitVec.eq_of_toNat_eq ((toNat_and_ones w hn).trans (Nat.mod_eq_of_lt h))

theorem accWidth_le (r : AccReg) : accWidth r ≤ 32 := by
  cases r <;> decide

/-- A byte of a register has no bit outside the register's. -/
theorem byteLane_accGet (a : Accel) (r : AccReg) (k : Nat) :
    byteLane (accGet a r) k = byteLane (accGet a r) k &&& byteLane (BitVec.ofNat 32 (2 ^ accWidth r - 1)) k := by
  rw [← byteLane_and, and_ones_of_lt (accWidth_le r) (accGet_lt a r)]

/-- What the map puts at an offset is a lane of one of its entries (R252). -/
theorem accLane_eq_some {m : List AccEntry} {o : Nat} {r : AccReg} {lane : Nat} (h : accLane m o = some (r, lane)) :
    ∃ e ∈ m, lane < e.bytes ∧ e.reg = r ∧ e.off + lane = o := by
  unfold accLane at h
  split at h
  · cases h
  · split at h
    · next e he =>
      have hat : e.off ≤ o ∧ o < e.off + e.bytes := by simpa using List.find?_some he
      cases h
      exact ⟨e, List.mem_of_find?_eq_some he, by omega, rfl, by omega⟩
    · cases h

/-- The write masks are the registers' bits, lane by lane of the default map (R255, D20). -/
theorem laneMask_accelRegMap : ∀ e ∈ Config.accelRegMap, ∀ k < e.bytes,
    byteLane (BitVec.ofNat 32 (2 ^ accWidth e.reg - 1)) k = laneMask (e.off + k) := by
  decide

theorem State.rdByte_laneMask {s : State} (hmap : s.cfg.accelRegMap = Config.accelRegMap) (o : Nat) :
    s.rdByte o = s.rdByte o &&& laneMask o := by
  cases hat : accLane s.cfg.accelRegMap o with
  | none =>
    rw [State.rdByte_of_none hat]
    exact BitVec.zero_and.symm
  | some p =>
    obtain ⟨r, lane⟩ := p
    obtain ⟨e, he, hlane, rfl, rfl⟩ := accLane_eq_some hat
    rw [hmap] at he
    rw [State.rdByte_of_some hat, ← laneMask_accelRegMap e he lane hlane]
    exact byteLane_accGet s.acc e.reg lane

/-- Settles O19: each row reads the stored bytes; under the default map those have only the bits of their register. -/
theorem readsAnswerStoredBytes : Obligations.ReadsAnswerStoredBytes := by
  refine ⟨?rows, fun s o => State.rdByte_of_none, fun s o r lane => State.rdByte_of_some, ?default⟩
  case rows =>
    intro off len s
    dsimp only
    rw [exec_rd, State.rd_eq]
    refine ⟨rfl, fun p hp => ?_⟩
    rw [exec_regRow hp]
    refine ⟨fun hoff => ?_, fun hoff => ?_⟩
    · rw [State.accessRegister, hoff, State.rd_eq]
    · rw [State.accessRegister, State.rd_of_beyond s hoff]
  case default =>
    intro s hmap
    exact ⟨State.rdByte_laneMask hmap, State.rdByte_of_none (by rw [hmap]; rfl)⟩

end Sys2Proof.Machine
end

section
/-! The framing of rows as bytes (log 2): the decoder reads back what the encoder writes of each
format, and what it reads is well-formed. -/

-- Theorem bodies in sequence: many waiting at once would each hold a thread of the compile.
set_option Elab.async false

namespace Sys2Proof.Machine

open Sys2Proof

/-! ## Words and their fields as bytes -/

@[simp] theorem word4_byteLane (w : Word) :
    word4 (byteLane w 0) (byteLane w 1) (byteLane w 2) (byteLane w 3) = w := by
  refine BitVec.eq_of_getLsbD_eq fun i hi => ?_
  simp only [word4, byteLane, BitVec.getLsbD_append, BitVec.getLsbD_extractLsb']
  grind

theorem exists_word4 (w : Word) : ∃ b0 b1 b2 b3, w = word4 b0 b1 b2 b3 := ⟨_, _, _, _, (word4_byteLane w).symm⟩

theorem bytes4_word4 (b0 b1 b2 b3 : Byte) : bytes4 (word4 b0 b1 b2 b3) = [b0, b1, b2, b3] := by
  have hlane (k : Nat) (hk : k < 4) : byteLane (word4 b0 b1 b2 b3) k = [b0, b1, b2, b3].getD k 0 := by
    refine BitVec.eq_of_getLsbD_eq fun i hi => ?_
    simp only [word4, byteLane, BitVec.getLsbD_append, BitVec.getLsbD_extractLsb']
    interval_cases k <;> simp only [List.getD_cons_zero, List.getD_cons_succ] <;> grind
  simp only [bytes4, hlane 0 (by decide), hlane 1 (by decide), hlane 2 (by decide), hlane 3 (by decide),
    List.getD_cons_zero, List.getD_cons_succ]

/-- A field's value, put at its place above a low part and under a high part. -/
theorem extractLsb'_field {h m l : Nat} (high : BitVec h) (mid : BitVec m) (low : BitVec l) :
    (high ++ mid ++ low).extractLsb' l m = mid := by
  refine BitVec.eq_of_getLsbD_eq fun i hi => ?_
  simp only [BitVec.getLsbD_append, BitVec.getLsbD_extractLsb']
  grind

/-- Reading inside the high part of a word. -/
theorem extractLsb'_high {h l : Nat} (high : BitVec h) (low : BitVec l) (start len : Nat) :
    (high ++ low).extractLsb' (l + start) len = high.extractLsb' start len := by
  refine BitVec.eq_of_getLsbD_eq fun i hi => ?_
  simp only [BitVec.getLsbD_append, BitVec.getLsbD_extractLsb']
  grind

theorem extractLsb'_low {h l : Nat} (high : BitVec h) (low : BitVec l) : (high ++ low).extractLsb' 0 l = low := by
  refine BitVec.eq_of_getLsbD_eq fun i hi => ?_
  simp only [BitVec.getLsbD_append, BitVec.getLsbD_extractLsb']
  grind

theorem extractLsb'_top {h l : Nat} (high : BitVec h) (low : BitVec l) : (high ++ low).extractLsb' l h = high := by
  have htop := extractLsb'_high high low 0 h
  rwa [Nat.add_zero, BitVec.extractLsb'_eq_self] at htop

/-- A value in a wider field keeps every bit. -/
theorem setWidth_setWidth_narrow {n m : Nat} (hnm : n ≤ m) (x : BitVec n) : (x.setWidth m).setWidth n = x := by
  rw [BitVec.setWidth_setWidth_of_le x hnm, BitVec.setWidth_eq]

/-! ## The decoder reads back what the encoder writes -/

section
variable (after : List Byte)

theorem encode_wr (off : BitVec 7) (len : Len) (val : Word) :
    encode (.wr off len val) = 0x01 :: off.setWidth 8 :: len.code :: bytes4 val := rfl

theorem decode_wr (off : BitVec 7) (len : Len) (val : Word) (hfits : fitsLen len val = true) :
    decode (encode (.wr off len val) ++ after) = .ok (.wr off len val, after) := by
  have hoff : (off.setWidth 8).toNat < 0x80 := by
    rw [BitVec.toNat_setWidth_of_le (by decide)]; exact off.isLt
  have hread : decode (encode (.wr off len val) ++ after) =
      if (off.setWidth 8).toNat < 0x80 then
        if fitsLen len val then .ok (.wr ((off.setWidth 8).setWidth 7) len val, after) else .error (.valueTooWide val)
      else .error (.offsetOutsideBlock (off.setWidth 8)) := by
    obtain ⟨v0, v1, v2, v3, rfl⟩ := exists_word4 val
    rw [encode_wr, bytes4_word4]
    cases len <;> rfl
  rw [hread, if_pos hoff, if_pos hfits, setWidth_setWidth_narrow (by decide)]

theorem decode_rd (off : BitVec 7) (len : Len) :
    decode (encode (.rd off len) ++ after) = .ok (.rd off len, after) := by
  have hoff : (off.setWidth 8).toNat < 0x80 := by
    rw [BitVec.toNat_setWidth_of_le (by decide)]; exact off.isLt
  have hread : decode (encode (.rd off len) ++ after) =
      if (off.setWidth 8).toNat < 0x80 then .ok (.rd ((off.setWidth 8).setWidth 7) len, after)
      else .error (.offsetOutsideBlock (off.setWidth 8)) := by
    cases len <;> rfl
  rw [hread, if_pos hoff, setWidth_setWidth_narrow (by decide)]

theorem encode_cmd (w : Word) : encode (.cmd w) = 0x03 :: bytes4 w := rfl

theorem decode_cmd (w : Word) : decode (encode (.cmd w) ++ after) = .ok (.cmd w, after) := by
  obtain ⟨b0, b1, b2, b3, rfl⟩ := exists_word4 w
  rw [encode_cmd, bytes4_word4]
  rfl

theorem encode_ssv (w : Word) : encode (.ssv w) = 0x04 :: bytes4 w := rfl

theorem decode_ssv (w : Word) : decode (encode (.ssv w) ++ after) = .ok (.ssv w, after) := by
  obtain ⟨b0, b1, b2, b3, rfl⟩ := exists_word4 w
  rw [encode_ssv, bytes4_word4]
  rfl

theorem port_lt (port : BitVec 4) : (port.setWidth 8).toNat < 16 := by
  rw [BitVec.toNat_setWidth_of_le (by decide)]; exact port.isLt

theorem decode_out (port : BitVec 4) (v : Byte) :
    decode (encode (.out port v) ++ after) = .ok (.out port v, after) := by
  have hread : decode (encode (.out port v) ++ after) =
      if (port.setWidth 8).toNat < 16 then .ok (.out ((port.setWidth 8).setWidth 4) v, after)
      else .error (.portOutsideWindow (port.setWidth 8)) := rfl
  rw [hread, if_pos (port_lt port), setWidth_setWidth_narrow (by decide)]

theorem decode_inp (port : BitVec 4) : decode (encode (.inp port) ++ after) = .ok (.inp port, after) := by
  have hread : decode (encode (.inp port) ++ after) =
      if (port.setWidth 8).toNat < 16 then .ok (.inp ((port.setWidth 8).setWidth 4), after)
      else .error (.portOutsideWindow (port.setWidth 8)) := rfl
  rw [hread, if_pos (port_lt port), setWidth_setWidth_narrow (by decide)]

theorem encode_apw (addr : Word) (len : Len) (val : Word) :
    encode (.apw addr len val) = 0x07 :: (bytes4 addr ++ [len.code] ++ bytes4 val) := rfl

theorem decode_apw (addr : Word) (len : Len) (val : Word) (hfits : fitsLen len val = true) :
    decode (encode (.apw addr len val) ++ after) = .ok (.apw addr len val, after) := by
  have hread : decode (encode (.apw addr len val) ++ after) =
      if fitsLen len val then .ok (.apw addr len val, after) else .error (.valueTooWide val) := by
    obtain ⟨a0, a1, a2, a3, rfl⟩ := exists_word4 addr
    obtain ⟨v0, v1, v2, v3, rfl⟩ := exists_word4 val
    rw [encode_apw, bytes4_word4, bytes4_word4]
    cases len <;> rfl
  rw [hread, if_pos hfits]

theorem encode_apr (addr : Word) (len : Len) : encode (.apr addr len) = 0x08 :: (bytes4 addr ++ [len.code]) := rfl

theorem decode_apr (addr : Word) (len : Len) :
    decode (encode (.apr addr len) ++ after) = .ok (.apr addr len, after) := by
  obtain ⟨a0, a1, a2, a3, rfl⟩ := exists_word4 addr
  rw [encode_apr, bytes4_word4]
  cases len <;> rfl

theorem half2_bytes (h : Half) : half2 (h.extractLsb' 0 8) (h.extractLsb' 8 8) = h := by
  refine BitVec.eq_of_getLsbD_eq fun i hi => ?_
  simp only [half2, BitVec.getLsbD_append, BitVec.getLsbD_extractLsb']
  grind

theorem decode_mmr (off : BitVec 13) (hrom : off.toNat < 0x1800) :
    decode (encode (.mmr off) ++ after) = .ok (.mmr off, after) := by
  have hoff : (off.setWidth 16).toNat < 0x1800 := by
    rw [BitVec.toNat_setWidth_of_le (by decide)]; exact hrom
  have hread (lo hi : Byte) : decode (0x09 :: lo :: hi :: after) =
      if (half2 lo hi).toNat < 0x1800 then .ok (.mmr ((half2 lo hi).setWidth 13), after)
      else .error (.offsetAboveRom (half2 lo hi)) := rfl
  refine (hread _ _).trans ?_
  rw [half2_bytes, if_pos hoff, setWidth_setWidth_narrow (by decide)]

/-! ### Command words and their fields (R102) -/

theorem decode_opcode (code : BitVec 4) (rest : BitVec 28) :
    decode (0x10 :: bytes4 (code ++ rest) ++ after) = .ok (opcodeRow code rest, after) := by
  have hread (w : Word) : decode (0x10 :: bytes4 w ++ after) =
      .ok (opcodeRow (w.extractLsb' 28 4) (w.extractLsb' 0 28), after) := by
    obtain ⟨b0, b1, b2, b3, rfl⟩ := exists_word4 w
    rw [bytes4_word4]
    rfl
  rw [hread, extractLsb'_top, extractLsb'_low]

theorem decode_drawMode (w : Word) (firstCol firstRow : Bool) :
    decode (0x11 :: (bytes4 w ++ [flagByte firstCol, flagByte firstRow]) ++ after) =
      .ok (drawModeRow (w.extractLsb' 4 2) firstCol firstRow, after) := by
  obtain ⟨b0, b1, b2, b3, rfl⟩ := exists_word4 w
  rw [bytes4_word4]
  cases firstCol <;> cases firstRow <;> rfl

theorem decode_maskMode (w dx dy : Word) :
    decode (0x12 :: (bytes4 w ++ bytes4 dx ++ bytes4 dy) ++ after) =
      .ok (maskModeRow (w.extractLsb' 6 2) dx dy, after) := by
  obtain ⟨b0, b1, b2, b3, rfl⟩ := exists_word4 w
  obtain ⟨x0, x1, x2, x3, rfl⟩ := exists_word4 dx
  obtain ⟨y0, y1, y2, y3, rfl⟩ := exists_word4 dy
  rw [bytes4_word4, bytes4_word4, bytes4_word4]
  rfl

theorem decode_octant (w : Word) :
    decode (0x13 :: bytes4 w ++ after) = .ok (octantRow (w.extractLsb' 0 3), after) := by
  obtain ⟨b0, b1, b2, b3, rfl⟩ := exists_word4 w
  rw [bytes4_word4]
  rfl

/-- `top` is bits 31:24, of which the foreground source select is bits 1:0. -/
theorem decode_fgSrc (top : Byte) (sel : BitVec 4) (sx sy : Word) :
    decode (0x14 :: (bytes4 (top ++ sel ++ 0#20) ++ bytes4 sx ++ bytes4 sy) ++ after) =
      .ok (fgSrcRow (top.extractLsb' 0 2) sel sx sy, after) := by
  have hread (w : Word) : decode (0x14 :: (bytes4 w ++ bytes4 sx ++ bytes4 sy) ++ after) =
      .ok (fgSrcRow (w.extractLsb' 24 2) (w.extractLsb' 20 4) sx sy, after) := by
    obtain ⟨b0, b1, b2, b3, rfl⟩ := exists_word4 w
    obtain ⟨x0, x1, x2, x3, rfl⟩ := exists_word4 sx
    obtain ⟨y0, y1, y2, y3, rfl⟩ := exists_word4 sy
    rw [bytes4_word4, bytes4_word4, bytes4_word4]
    rfl
  rw [hread, extractLsb'_field, BitVec.append_assoc]
  exact congrArg (fun c => Except.ok (fgSrcRow c sel sx sy, after)) (extractLsb'_high top (sel ++ 0#20) 0 2)

/-- `top` is bits 31:24, of which the background source select is bits 3:2. -/
theorem decode_bgSrc (top : Byte) (sel : BitVec 4) (sx sy : Word) :
    decode (0x15 :: (bytes4 (top ++ sel ++ 0#20) ++ bytes4 sx ++ bytes4 sy) ++ after) =
      .ok (bgSrcRow (top.extractLsb' 2 2) sel sx sy, after) := by
  have hread (w : Word) : decode (0x15 :: (bytes4 w ++ bytes4 sx ++ bytes4 sy) ++ after) =
      .ok (bgSrcRow (w.extractLsb' 26 2) (w.extractLsb' 20 4) sx sy, after) := by
    obtain ⟨b0, b1, b2, b3, rfl⟩ := exists_word4 w
    obtain ⟨x0, x1, x2, x3, rfl⟩ := exists_word4 sx
    obtain ⟨y0, y1, y2, y3, rfl⟩ := exists_word4 sy
    rw [bytes4_word4, bytes4_word4, bytes4_word4]
    rfl
  rw [hread, extractLsb'_field, BitVec.append_assoc]
  exact congrArg (fun c => Except.ok (bgSrcRow c sel sx sy, after)) (extractLsb'_high top (sel ++ 0#20) 2 2)

theorem decode_pattern (sel : BitVec 4) (px py : Word) :
    decode (0x16 :: (bytes4 (0#16 ++ sel ++ 0#12) ++ bytes4 px ++ bytes4 py) ++ after) =
      .ok (patternRow sel px py, after) := by
  have hread (w : Word) : decode (0x16 :: (bytes4 w ++ bytes4 px ++ bytes4 py) ++ after) =
      .ok (patternRow (w.extractLsb' 12 4) px py, after) := by
    obtain ⟨b0, b1, b2, b3, rfl⟩ := exists_word4 w
    obtain ⟨x0, x1, x2, x3, rfl⟩ := exists_word4 px
    obtain ⟨y0, y1, y2, y3, rfl⟩ := exists_word4 py
    rw [bytes4_word4, bytes4_word4, bytes4_word4]
    rfl
  rw [hread, extractLsb'_field]

theorem decode_patMap (sel : BitVec 4) (px py : Word) (hsel : sel ≠ 8) :
    decode (encode (.patMap sel px py) ++ after) = .ok (.patMap sel px py, after) :=
  (decode_pattern after sel px py).trans (by rw [patternRow, if_neg hsel])

theorem decode_srcMapSel (sel : BitVec 4) :
    decode (encode (.srcMapSel sel) ++ after) = .ok (.srcMapSel sel, after) := by
  have hread (w : Word) : decode (0x17 :: bytes4 w ++ after) = .ok (.srcMapSel (w.extractLsb' 20 4), after) := by
    obtain ⟨b0, b1, b2, b3, rfl⟩ := exists_word4 w
    rw [bytes4_word4]
    rfl
  exact (hread _).trans (by rw [extractLsb'_field])

theorem decode_dstMapSel (sel : BitVec 4) :
    decode (encode (.dstMapSel sel) ++ after) = .ok (.dstMapSel sel, after) := by
  have hread (w : Word) : decode (0x18 :: bytes4 w ++ after) = .ok (.dstMapSel (w.extractLsb' 16 4), after) := by
    obtain ⟨b0, b1, b2, b3, rfl⟩ := exists_word4 w
    rw [bytes4_word4]
    rfl
  exact (hread _).trans (by rw [extractLsb'_field])

/-! ### Mix, compare, stroke and format codes (R108 to R111) -/

theorem decode_mix (code : Byte) (d s : Word) :
    decode (0x20 :: ([code] ++ bytes4 d ++ bytes4 s) ++ after) = .ok (mixRow (code.extractLsb' 0 5) d s, after) := by
  obtain ⟨d0, d1, d2, d3, rfl⟩ := exists_word4 d
  obtain ⟨s0, s1, s2, s3, rfl⟩ := exists_word4 s
  rw [bytes4_word4, bytes4_word4]
  rfl

theorem decode_compare (code : Byte) (dest : Word) :
    decode (0x21 :: ([code] ++ bytes4 dest) ++ after) = .ok (compareRow (code.extractLsb' 0 3) dest, after) := by
  obtain ⟨d0, d1, d2, d3, rfl⟩ := exists_word4 dest
  rw [bytes4_word4]
  rfl

theorem getLsbD_field_ofBool {h l : Nat} (high : BitVec h) (b : Bool) (low : BitVec l) :
    (high ++ BitVec.ofBool b ++ low).getLsbD l = b := by
  rw [BitVec.getLsbD_append, if_neg (Nat.lt_irrefl l), Nat.sub_self, BitVec.getLsbD_append, if_pos (by decide)]
  cases b <;> rfl

theorem decode_stroke (dir : BitVec 3) (draw : Bool) (len : BitVec 4) :
    decode (0x22 :: [dir ++ BitVec.ofBool draw ++ len] ++ after) = .ok (strokeRow dir draw len, after) := by
  have hread (b : Byte) : decode (0x22 :: [b] ++ after) =
      .ok (strokeRow (b.extractLsb' 5 3) (b.getLsbD 4) (b.extractLsb' 0 4), after) := rfl
  have hdir : (dir ++ BitVec.ofBool draw ++ len).extractLsb' 5 3 = dir := by
    rw [BitVec.append_assoc]
    exact extractLsb'_top dir (BitVec.ofBool draw ++ len)
  rw [hread, hdir, getLsbD_field_ofBool, extractLsb'_low]

theorem decodePixAccess_encodePixAccess (tag : Byte) (acc : PixAccess) :
    decodePixAccess tag (encodePixAccess acc ++ after) = .ok (acc, after) := by
  have hmap (m : BitVec 2) : (m.setWidth 8).toNat < 4 := by
    rw [BitVec.toNat_setWidth_of_le (by decide)]; exact m.isLt
  cases acc with
  | read m x y =>
    obtain ⟨x0, x1, x2, x3, rfl⟩ := exists_word4 x
    obtain ⟨y0, y1, y2, y3, rfl⟩ := exists_word4 y
    rw [encodePixAccess, bytes4_word4, bytes4_word4]
    refine (if_pos (hmap m)).trans ?_
    rw [setWidth_setWidth_narrow (by decide)]
    rfl
  | write m x y v =>
    obtain ⟨x0, x1, x2, x3, rfl⟩ := exists_word4 x
    obtain ⟨y0, y1, y2, y3, rfl⟩ := exists_word4 y
    obtain ⟨v0, v1, v2, v3, rfl⟩ := exists_word4 v
    rw [encodePixAccess, bytes4_word4, bytes4_word4, bytes4_word4]
    refine (if_pos (hmap m)).trans ?_
    rw [setWidth_setWidth_narrow (by decide)]
    rfl

theorem decode_format (depth : BitVec 3) (packed : Bool) (acc : PixAccess) :
    decode (0x23 :: ([0#4 ++ BitVec.ofBool packed ++ depth] ++ encodePixAccess acc) ++ after) =
      .ok (formatRow depth packed acc, after) := by
  have hread (c : Byte) (bs : List Byte) (h : decodePixAccess 0x23 bs = .ok (acc, after)) :
      decode (0x23 :: c :: bs) = .ok (formatRow (c.extractLsb' 0 3) (c.getLsbD 3) acc, after) := by
    show (match decodePixAccess 0x23 bs with
      | .ok (acc, rest) => Except.ok (formatRow (c.extractLsb' 0 3) (c.getLsbD 3) acc, rest)
      | .error e => .error e) = _
    rw [h]
  refine (hread _ _ (decodePixAccess_encodePixAccess after 0x23 acc)).trans ?_
  rw [getLsbD_field_ofBool, extractLsb'_low]

/-! ### Registers, ports and sub-registers (R252, R341, R343) -/

theorem decodeRegAccess_encodeRegAccess (tag : Byte) (acc : RegAccess) (hacc : acc.wellFormed = true) :
    decodeRegAccess tag (encodeRegAccess acc ++ after) = .ok (acc, after) := by
  cases acc with
  | read len => cases len <;> rfl
  | write len val =>
    have hread : decodeRegAccess tag (encodeRegAccess (.write len val) ++ after) =
        if fitsLen len val then .ok (.write len val, after) else .error (.valueTooWide val) := by
      obtain ⟨v0, v1, v2, v3, rfl⟩ := exists_word4 val
      rw [encodeRegAccess, bytes4_word4]
      cases len <;> rfl
    rw [hread]
    exact if_pos hacc

theorem decodeByteAccess_encodeByteAccess (tag : Byte) (acc : ByteAccess) :
    decodeByteAccess tag (encodeByteAccess acc ++ after) = .ok (acc, after) := by
  cases acc <;> rfl

theorem decode_register {off : Byte} {acc : RegAccess} {i : Instr} (hrow : registerRow off acc = some i)
    (hacc : acc.wellFormed = true) :
    decode (0x30 :: ([off] ++ encodeRegAccess acc) ++ after) = .ok (i, after) := by
  show (match decodeRegAccess 0x30 (encodeRegAccess acc ++ after) with
    | .ok (acc, rest) =>
      match registerRow off acc with
      | some i => Except.ok (i, rest)
      | none => .error (DecodeError.noRegister off)
    | .error e => .error e) = _
  rw [decodeRegAccess_encodeRegAccess after 0x30 acc hacc]
  simp only [hrow]

theorem decode_port (port : Byte) (acc : ByteAccess) :
    decode (0x31 :: ([port] ++ encodeByteAccess acc) ++ after) =
      .ok (portRow (port.extractLsb' 0 4) acc, after) := by
  show (match decodeByteAccess 0x31 (encodeByteAccess acc ++ after) with
    | .ok (acc, rest) => Except.ok (portRow (port.extractLsb' 0 4) acc, rest)
    | .error e => .error e) = _
  rw [decodeByteAccess_encodeByteAccess]

theorem decode_subRegister {index : Byte} {acc : ByteAccess} {i : Instr} (hrow : subRegisterRow index acc = some i) :
    decode (0x32 :: ([index] ++ encodeByteAccess acc) ++ after) = .ok (i, after) := by
  show (match decodeByteAccess 0x32 (encodeByteAccess acc ++ after) with
    | .ok (acc, rest) =>
      match subRegisterRow index acc with
      | some i => Except.ok (i, rest)
      | none => .error (DecodeError.noSubRegister index)
    | .error e => .error e) = _
  rw [decodeByteAccess_encodeByteAccess]
  simp only [hrow]
end

/-- What the encoder writes of a well-formed row, the decoder reads back, whatever bytes follow. -/
theorem decode_encode (after : List Byte) :
    ∀ i : Instr, i.wellFormed = true → decode (encode i ++ after) = .ok (i, after)
  | .wr off len val, h => decode_wr after off len val h
  | .rd off len, _ => decode_rd after off len
  | .cmd word, _ => decode_cmd after word
  | .ssv word, _ => decode_ssv after word
  | .out port val, _ => decode_out after port val
  | .inp port, _ => decode_inp after port
  | .apw addr len val, h => decode_apw after addr len val h
  | .apr addr len, _ => decode_apr after addr len
  | .mmr off, h => decode_mmr after off (of_decide_eq_true h)
  | .tick, _ => rfl
  | .opRsvd0 rest, _ => decode_opcode after 0x0 rest
  | .opRsvd1 rest, _ => decode_opcode after 0x1 rest
  | .opRsvd2 rest, _ => decode_opcode after 0x2 rest
  | .opLineRead rest, _ => decode_opcode after 0x3 rest
  | .opShortStroke rest, _ => decode_opcode after 0x4 rest
  | .opLineDraw rest, _ => decode_opcode after 0x5 rest
  | .opRsvd6 rest, _ => decode_opcode after 0x6 rest
  | .opRsvd7 rest, _ => decode_opcode after 0x7 rest
  | .opBitblt rest, _ => decode_opcode after 0x8 rest
  | .opBitbltInv rest, _ => decode_opcode after 0x9 rest
  | .opAreaFill rest, _ => decode_opcode after 0xA rest
  | .opRsvdB rest, _ => decode_opcode after 0xB rest
  | .opRsvdC rest, _ => decode_opcode after 0xC rest
  | .opRsvdD rest, _ => decode_opcode after 0xD rest
  | .opRsvdE rest, _ => decode_opcode after 0xE rest
  | .opRsvdF rest, _ => decode_opcode after 0xF rest
  | .dmEvery firstCol firstRow, _ => decode_drawMode after 0x00000000 firstCol firstRow
  | .dmNotFirstCol firstCol firstRow, _ => decode_drawMode after 0x00000010 firstCol firstRow
  | .dmNotFirstRow firstCol firstRow, _ => decode_drawMode after 0x00000020 firstCol firstRow
  | .dm3 firstCol firstRow, _ => decode_drawMode after 0x00000030 firstCol firstRow
  | .clipOff dx dy, _ => decode_maskMode after 0x00000000 dx dy
  | .clipOn1 dx dy, _ => decode_maskMode after 0x00000040 dx dy
  | .clipOn2 dx dy, _ => decode_maskMode after 0x00000080 dx dy
  | .clipOn3 dx dy, _ => decode_maskMode after 0x000000C0 dx dy
  | .oct0, _ => decode_octant after 0x00000000
  | .oct1, _ => decode_octant after 0x00000001
  | .oct2, _ => decode_octant after 0x00000002
  | .oct3, _ => decode_octant after 0x00000003
  | .oct4, _ => decode_octant after 0x00000004
  | .oct5, _ => decode_octant after 0x00000005
  | .oct6, _ => decode_octant after 0x00000006
  | .oct7, _ => decode_octant after 0x00000007
  | .fgSrcColor0 srcSel sx sy, _ => decode_fgSrc after 0x0 srcSel sx sy
  | .fgSrcColor1 srcSel sx sy, _ => decode_fgSrc after 0x1 srcSel sx sy
  | .fgSrcMap srcSel sx sy, _ => decode_fgSrc after 0x2 srcSel sx sy
  | .fgSrcColor3 srcSel sx sy, _ => decode_fgSrc after 0x3 srcSel sx sy
  | .bgSrcColor0 srcSel sx sy, _ => decode_bgSrc after 0x0 srcSel sx sy
  | .bgSrcColor1 srcSel sx sy, _ => decode_bgSrc after 0x4 srcSel sx sy
  | .bgSrcMap srcSel sx sy, _ => decode_bgSrc after 0x8 srcSel sx sy
  | .bgSrcColor3 srcSel sx sy, _ => decode_bgSrc after 0xC srcSel sx sy
  | .patNone, _ => decode_pattern after 8 0 0
  | .patMap sel px py, h => decode_patMap after sel px py (of_decide_eq_true h)
  | .srcMapSel sel, _ => decode_srcMapSel after sel
  | .dstMapSel sel, _ => decode_dstMapSel after sel
  | .ropClear d s, _ => decode_mix after 0x00 d s
  | .ropAnd d s, _ => decode_mix after 0x01 d s
  | .ropAndNot d s, _ => decode_mix after 0x02 d s
  | .ropSrc d s, _ => decode_mix after 0x03 d s
  | .ropNotAnd d s, _ => decode_mix after 0x04 d s
  | .ropNop d s, _ => decode_mix after 0x05 d s
  | .ropXor d s, _ => decode_mix after 0x06 d s
  | .ropOr d s, _ => decode_mix after 0x07 d s
  | .ropNor d s, _ => decode_mix after 0x08 d s
  | .ropXnor d s, _ => decode_mix after 0x09 d s
  | .ropNotDest d s, _ => decode_mix after 0x0A d s
  | .ropOrNot d s, _ => decode_mix after 0x0B d s
  | .ropNotSrc d s, _ => decode_mix after 0x0C d s
  | .ropNotOrDest d s, _ => decode_mix after 0x0D d s
  | .ropNand d s, _ => decode_mix after 0x0E d s
  | .ropSet d s, _ => decode_mix after 0x0F d s
  | .ropMax d s, _ => decode_mix after 0x10 d s
  | .ropMin d s, _ => decode_mix after 0x11 d s
  | .ropAddSat d s, _ => decode_mix after 0x12 d s
  | .ropSubSatDs d s, _ => decode_mix after 0x13 d s
  | .ropSubSatSd d s, _ => decode_mix after 0x14 d s
  | .ropAvg d s, _ => decode_mix after 0x15 d s
  | .ropMixUndef16 d s, _ => decode_mix after 0x16 d s
  | .ropMixUndef17 d s, _ => decode_mix after 0x17 d s
  | .ropMixUndef18 d s, _ => decode_mix after 0x18 d s
  | .ropMixUndef19 d s, _ => decode_mix after 0x19 d s
  | .ropMixUndef1a d s, _ => decode_mix after 0x1A d s
  | .ropMixUndef1b d s, _ => decode_mix after 0x1B d s
  | .ropMixUndef1c d s, _ => decode_mix after 0x1C d s
  | .ropMixUndef1d d s, _ => decode_mix after 0x1D d s
  | .ropMixUndef1e d s, _ => decode_mix after 0x1E d s
  | .ropMixUndef1f d s, _ => decode_mix after 0x1F d s
  | .ccTrue dest, _ => decode_compare after 0x00 dest
  | .ccGt dest, _ => decode_compare after 0x01 dest
  | .ccEq dest, _ => decode_compare after 0x02 dest
  | .ccLt dest, _ => decode_compare after 0x03 dest
  | .ccX4 dest, _ => decode_compare after 0x04 dest
  | .ccGe dest, _ => decode_compare after 0x05 dest
  | .ccNe dest, _ => decode_compare after 0x06 dest
  | .ccLe dest, _ => decode_compare after 0x07 dest
  | .strokeDir0 draw len, _ => decode_stroke after 0 draw len
  | .strokeDir1 draw len, _ => decode_stroke after 1 draw len
  | .strokeDir2 draw len, _ => decode_stroke after 2 draw len
  | .strokeDir3 draw len, _ => decode_stroke after 3 draw len
  | .strokeDir4 draw len, _ => decode_stroke after 4 draw len
  | .strokeDir5 draw len, _ => decode_stroke after 5 draw len
  | .strokeDir6 draw len, _ => decode_stroke after 6 draw len
  | .strokeDir7 draw len, _ => decode_stroke after 7 draw len
  | .pf1 packed acc, _ => decode_format after 0x0 packed acc
  | .pfRsvd1 packed acc, _ => decode_format after 0x1 packed acc
  | .pfRsvd2 packed acc, _ => decode_format after 0x2 packed acc
  | .pf8 packed acc, _ => decode_format after 0x3 packed acc
  | .pf16 packed acc, _ => decode_format after 0x4 packed acc
  | .pfRsvd5 packed acc, _ => decode_format after 0x5 packed acc
  | .pfRsvd6 packed acc, _ => decode_format after 0x6 packed acc
  | .pfRsvd7 packed acc, _ => decode_format after 0x7 packed acc
  | .accPxMapIdx _, h => decode_register (off := 0x12) after rfl h
  | .accMapBase _, h => decode_register (off := 0x14) after rfl h
  | .accMapWidth _, h => decode_register (off := 0x18) after rfl h
  | .accMapHeight _, h => decode_register (off := 0x1A) after rfl h
  | .accMapFormat _, h => decode_register (off := 0x1C) after rfl h
  | .accBresErrTerm _, h => decode_register (off := 0x20) after rfl h
  | .accBresK1 _, h => decode_register (off := 0x24) after rfl h
  | .accBresK2 _, h => decode_register (off := 0x28) after rfl h
  | .accShortStroke _, h => decode_register (off := 0x2C) after rfl h
  | .accFrgdMix _, h => decode_register (off := 0x48) after rfl h
  | .accBkgdMix _, h => decode_register (off := 0x49) after rfl h
  | .accCcCond _, h => decode_register (off := 0x4A) after rfl h
  | .accColorCmp _, h => decode_register (off := 0x4C) after rfl h
  | .accPlaneMask _, h => decode_register (off := 0x50) after rfl h
  | .accFrgdColor _, h => decode_register (off := 0x58) after rfl h
  | .accBkgdColor _, h => decode_register (off := 0x5C) after rfl h
  | .accBltWidth _, h => decode_register (off := 0x60) after rfl h
  | .accBltHeight _, h => decode_register (off := 0x62) after rfl h
  | .accMaskMapOriginXOff _, h => decode_register (off := 0x6C) after rfl h
  | .accMaskMapOriginYOff _, h => decode_register (off := 0x6E) after rfl h
  | .accSrcMapX _, h => decode_register (off := 0x70) after rfl h
  | .accSrcMapY _, h => decode_register (off := 0x72) after rfl h
  | .accPatMapX _, h => decode_register (off := 0x74) after rfl h
  | .accPatMapY _, h => decode_register (off := 0x76) after rfl h
  | .accDstMapX _, h => decode_register (off := 0x78) after rfl h
  | .accDstMapY _, h => decode_register (off := 0x7A) after rfl h
  | .accCommand _, h => decode_register (off := 0x7C) after rfl h
  | .portOpMode acc, _ => decode_port after 0x00 acc
  | .portApertureCntl acc, _ => decode_port after 0x01 acc
  | .portNone2 acc, _ => decode_port after 0x02 acc
  | .portNone3 acc, _ => decode_port after 0x03 acc
  | .portPort4 acc, _ => decode_port after 0x04 acc
  | .portNone5 acc, _ => decode_port after 0x05 acc
  | .portNone6 acc, _ => decode_port after 0x06 acc
  | .portNone7 acc, _ => decode_port after 0x07 acc
  | .portApIdx acc, _ => decode_port after 0x08 acc
  | .portAccessMode acc, _ => decode_port after 0x09 acc
  | .portRegIdx acc, _ => decode_port after 0x0A acc
  | .portDataB acc, _ => decode_port after 0x0B acc
  | .portDataC acc, _ => decode_port after 0x0C acc
  | .portDataD acc, _ => decode_port after 0x0D acc
  | .portDataE acc, _ => decode_port after 0x0E acc
  | .portDataF acc, _ => decode_port after 0x0F acc
  | .idx10 _, _ => decode_subRegister (index := 0x10) after rfl
  | .idx11 _, _ => decode_subRegister (index := 0x11) after rfl
  | .idx12 _, _ => decode_subRegister (index := 0x12) after rfl
  | .idx13 _, _ => decode_subRegister (index := 0x13) after rfl
  | .idx14 _, _ => decode_subRegister (index := 0x14) after rfl
  | .idx15 _, _ => decode_subRegister (index := 0x15) after rfl
  | .idx18 _, _ => decode_subRegister (index := 0x18) after rfl
  | .idx19 _, _ => decode_subRegister (index := 0x19) after rfl
  | .idx20 _, _ => decode_subRegister (index := 0x20) after rfl
  | .idx21 _, _ => decode_subRegister (index := 0x21) after rfl
  | .idx22 _, _ => decode_subRegister (index := 0x22) after rfl
  | .idx23 _, _ => decode_subRegister (index := 0x23) after rfl
  | .idx24 _, _ => decode_subRegister (index := 0x24) after rfl
  | .idx25 _, _ => decode_subRegister (index := 0x25) after rfl
  | .idx28 _, _ => decode_subRegister (index := 0x28) after rfl
  | .idx29 _, _ => decode_subRegister (index := 0x29) after rfl
  | .idx2c _, _ => decode_subRegister (index := 0x2C) after rfl
  | .idx2d _, _ => decode_subRegister (index := 0x2D) after rfl
  | .idx30 _, _ => decode_subRegister (index := 0x30) after rfl
  | .idx31 _, _ => decode_subRegister (index := 0x31) after rfl
  | .idx32 _, _ => decode_subRegister (index := 0x32) after rfl
  | .idx33 _, _ => decode_subRegister (index := 0x33) after rfl
  | .idx34 _, _ => decode_subRegister (index := 0x34) after rfl
  | .idx35 _, _ => decode_subRegister (index := 0x35) after rfl
  | .idx36 _, _ => decode_subRegister (index := 0x36) after rfl
  | .idx38 _, _ => decode_subRegister (index := 0x38) after rfl
  | .idx39 _, _ => decode_subRegister (index := 0x39) after rfl
  | .idx3a _, _ => decode_subRegister (index := 0x3A) after rfl
  | .idx3b _, _ => decode_subRegister (index := 0x3B) after rfl
  | .idx3c _, _ => decode_subRegister (index := 0x3C) after rfl
  | .idx3d _, _ => decode_subRegister (index := 0x3D) after rfl
  | .idx40 _, _ => decode_subRegister (index := 0x40) after rfl
  | .idx41 _, _ => decode_subRegister (index := 0x41) after rfl
  | .idx42 _, _ => decode_subRegister (index := 0x42) after rfl
  | .idx43 _, _ => decode_subRegister (index := 0x43) after rfl
  | .idx44 _, _ => decode_subRegister (index := 0x44) after rfl
  | .idx51 _, _ => decode_subRegister (index := 0x51) after rfl
  | .idx54 _, _ => decode_subRegister (index := 0x54) after rfl
  | .idx60 _, _ => decode_subRegister (index := 0x60) after rfl
  | .idx61 _, _ => decode_subRegister (index := 0x61) after rfl
  | .idx65 _, _ => decode_subRegister (index := 0x65) after rfl
  | .idx6a _, _ => decode_subRegister (index := 0x6A) after rfl

/-! ## What the decoder answers is well-formed -/

theorem wellFormed_opcodeRow (c : BitVec 4) (rest : BitVec 28) : (opcodeRow c rest).wellFormed = true := by
  unfold opcodeRow
  split <;> rfl

theorem wellFormed_drawModeRow (c : BitVec 2) (firstCol firstRow : Bool) :
    (drawModeRow c firstCol firstRow).wellFormed = true := by
  unfold drawModeRow
  split <;> rfl

theorem wellFormed_maskModeRow (c : BitVec 2) (dx dy : Word) : (maskModeRow c dx dy).wellFormed = true := by
  unfold maskModeRow
  split <;> rfl

theorem wellFormed_octantRow (c : BitVec 3) : (octantRow c).wellFormed = true := by
  unfold octantRow
  split <;> rfl

theorem wellFormed_fgSrcRow (c : BitVec 2) (sel : BitVec 4) (sx sy : Word) :
    (fgSrcRow c sel sx sy).wellFormed = true := by
  unfold fgSrcRow
  split <;> rfl

theorem wellFormed_bgSrcRow (c : BitVec 2) (sel : BitVec 4) (sx sy : Word) :
    (bgSrcRow c sel sx sy).wellFormed = true := by
  unfold bgSrcRow
  split <;> rfl

theorem wellFormed_patternRow (sel : BitVec 4) (px py : Word) : (patternRow sel px py).wellFormed = true := by
  unfold patternRow
  split
  · rfl
  · next hsel => exact decide_eq_true hsel

theorem wellFormed_mixRow (c : BitVec 5) (d s : Word) : (mixRow c d s).wellFormed = true := by
  unfold mixRow
  split <;> rfl

theorem wellFormed_compareRow (c : BitVec 3) (dest : Word) : (compareRow c dest).wellFormed = true := by
  unfold compareRow
  split <;> rfl

theorem wellFormed_strokeRow (c : BitVec 3) (draw : Bool) (len : BitVec 4) :
    (strokeRow c draw len).wellFormed = true := by
  unfold strokeRow
  split <;> rfl

theorem wellFormed_formatRow (c : BitVec 3) (packed : Bool) (acc : PixAccess) :
    (formatRow c packed acc).wellFormed = true := by
  unfold formatRow
  split <;> rfl

theorem wellFormed_portRow (c : BitVec 4) (acc : ByteAccess) : (portRow c acc).wellFormed = true := by
  unfold portRow
  split <;> rfl

theorem wellFormed_registerRow {acc : RegAccess} {off : Byte} {i : Instr} (h : registerRow off acc = some i)
    (hacc : acc.wellFormed = true) : i.wellFormed = true := by
  unfold registerRow at h
  split at h <;> cases h <;> exact hacc

theorem wellFormed_subRegisterRow {acc : ByteAccess} {index : Byte} {i : Instr}
    (h : subRegisterRow index acc = some i) : i.wellFormed = true := by
  unfold subRegisterRow at h
  split at h <;> cases h <;> rfl

/-- A register access that the decoder answers holds no more than its length (R100). -/
theorem decodeRegAccess_wellFormed {tag : Byte} {bs after : List Byte} {acc : RegAccess}
    (h : decodeRegAccess tag bs = .ok (acc, after)) : acc.wellFormed = true := by
  unfold decodeRegAccess at h
  split at h
  · split at h
    · cases h
    · split at h
      · cases h; rfl
      · split at h
        · next hfits => cases h; exact hfits
        · cases h
      · cases h
      · cases h
  · cases h

/-- The format tags (log 2). -/
def formatTags : List Byte :=
  [0x01, 0x02, 0x03, 0x04, 0x05, 0x06, 0x07, 0x08, 0x09, 0x0A, 0x10, 0x11, 0x12, 0x13, 0x14, 0x15, 0x16, 0x17, 0x18,
   0x20, 0x21, 0x22, 0x23, 0x30, 0x31, 0x32]

/-- Between the tags lie three gaps and the zero, above them the rest of the bytes. -/
theorem toNat_of_notMem_formatTags {tag : Byte} (h : tag ∉ formatTags) :
    tag.toNat = 0 ∨ (0x0B ≤ tag.toNat ∧ tag.toNat < 0x10) ∨ (0x19 ≤ tag.toNat ∧ tag.toNat < 0x20) ∨
      (0x24 ≤ tag.toNat ∧ tag.toNat < 0x30) ∨ 0x33 ≤ tag.toNat := by
  simp only [formatTags, List.mem_cons, List.not_mem_nil, or_false, not_or, BitVec.toNat_eq, BitVec.reduceToNat] at h
  omega

theorem decodeBody_unknown {tag : Byte} (h : tag ∉ formatTags) (bs : List Byte) :
    decodeBody tag bs = .error (.unknownFormat tag) := by
  have hat := toNat_of_notMem_formatTags h
  obtain ⟨⟨k, hk⟩⟩ := tag
  change k = 0 ∨ (0x0B ≤ k ∧ k < 0x10) ∨ (0x19 ≤ k ∧ k < 0x20) ∨ (0x24 ≤ k ∧ k < 0x30) ∨ 0x33 ≤ k at hat
  rcases hat with rfl | ⟨hlo, hhi⟩ | ⟨hlo, hhi⟩ | ⟨hlo, hhi⟩ | hlo
  · rfl
  all_goals interval_cases k <;> rfl

section
variable {bs after : List Byte} {i : Instr}

theorem wellFormed_of_decodeBody_wr (h : decodeBody 0x01 bs = .ok (i, after)) : i.wellFormed = true := by
  rcases bs with _ | ⟨off, _ | ⟨l, _ | ⟨v0, _ | ⟨v1, _ | ⟨v2, _ | ⟨v3, rest⟩⟩⟩⟩⟩⟩
  case cons.cons.cons.cons.cons.cons =>
    replace h : (match decodeLen l with
      | none => Except.error (DecodeError.badLength l)
      | some len =>
        if off.toNat < 0x80 then
          if fitsLen len (word4 v0 v1 v2 v3) then .ok (.wr (off.setWidth 7) len (word4 v0 v1 v2 v3), rest)
          else .error (DecodeError.valueTooWide (word4 v0 v1 v2 v3))
        else .error (DecodeError.offsetOutsideBlock off)) = Except.ok (i, after) := h
    split at h
    · cases h
    · split at h
      · split at h
        · next hfits => cases h; exact hfits
        · cases h
      · cases h
  all_goals cases h

theorem wellFormed_of_decodeBody_rd (h : decodeBody 0x02 bs = .ok (i, after)) : i.wellFormed = true := by
  rcases bs with _ | ⟨off, _ | ⟨l, rest⟩⟩
  case cons.cons =>
    replace h : (match decodeLen l with
      | none => Except.error (DecodeError.badLength l)
      | some len =>
        if off.toNat < 0x80 then .ok (.rd (off.setWidth 7) len, rest)
        else .error (DecodeError.offsetOutsideBlock off)) =
      Except.ok (i, after) := h
    split at h
    · cases h
    · split at h <;> cases h
      rfl
  all_goals cases h

theorem wellFormed_of_decodeBody_cmd (h : decodeBody 0x03 bs = .ok (i, after)) : i.wellFormed = true := by
  rcases bs with _ | ⟨b0, _ | ⟨b1, _ | ⟨b2, _ | ⟨b3, rest⟩⟩⟩⟩ <;> cases h
  rfl

theorem wellFormed_of_decodeBody_ssv (h : decodeBody 0x04 bs = .ok (i, after)) : i.wellFormed = true := by
  rcases bs with _ | ⟨b0, _ | ⟨b1, _ | ⟨b2, _ | ⟨b3, rest⟩⟩⟩⟩ <;> cases h
  rfl

theorem wellFormed_of_decodeBody_out (h : decodeBody 0x05 bs = .ok (i, after)) : i.wellFormed = true := by
  rcases bs with _ | ⟨port, _ | ⟨v, rest⟩⟩
  case cons.cons =>
    replace h : (if port.toNat < 16 then Except.ok (Instr.out (port.setWidth 4) v, rest)
      else .error (DecodeError.portOutsideWindow port)) = Except.ok (i, after) := h
    split at h <;> cases h
    rfl
  all_goals cases h

theorem wellFormed_of_decodeBody_inp (h : decodeBody 0x06 bs = .ok (i, after)) : i.wellFormed = true := by
  rcases bs with _ | ⟨port, rest⟩
  case cons =>
    replace h : (if port.toNat < 16 then Except.ok (Instr.inp (port.setWidth 4), rest)
      else .error (DecodeError.portOutsideWindow port)) = Except.ok (i, after) := h
    split at h <;> cases h
    rfl
  all_goals cases h

theorem wellFormed_of_decodeBody_apw (h : decodeBody 0x07 bs = .ok (i, after)) : i.wellFormed = true := by
  rcases bs with _ | ⟨a0, _ | ⟨a1, _ | ⟨a2, _ | ⟨a3, _ | ⟨l, _ | ⟨v0, _ | ⟨v1, _ | ⟨v2, _ | ⟨v3, rest⟩⟩⟩⟩⟩⟩⟩⟩⟩
  case cons.cons.cons.cons.cons.cons.cons.cons.cons =>
    replace h : (match decodeLen l with
      | none => Except.error (DecodeError.badLength l)
      | some len =>
        if fitsLen len (word4 v0 v1 v2 v3) then .ok (.apw (word4 a0 a1 a2 a3) len (word4 v0 v1 v2 v3), rest)
        else .error (DecodeError.valueTooWide (word4 v0 v1 v2 v3))) = Except.ok (i, after) := h
    split at h
    · cases h
    · split at h
      · next hfits => cases h; exact hfits
      · cases h
  all_goals cases h

theorem wellFormed_of_decodeBody_apr (h : decodeBody 0x08 bs = .ok (i, after)) : i.wellFormed = true := by
  rcases bs with _ | ⟨a0, _ | ⟨a1, _ | ⟨a2, _ | ⟨a3, _ | ⟨l, rest⟩⟩⟩⟩⟩
  case cons.cons.cons.cons.cons =>
    replace h : (match decodeLen l with
      | none => Except.error (DecodeError.badLength l)
      | some len => .ok (.apr (word4 a0 a1 a2 a3) len, rest)) = Except.ok (i, after) := h
    split at h <;> cases h
    rfl
  all_goals cases h

theorem wellFormed_of_decodeBody_mmr (h : decodeBody 0x09 bs = .ok (i, after)) : i.wellFormed = true := by
  rcases bs with _ | ⟨o0, _ | ⟨o1, rest⟩⟩
  case cons.cons =>
    replace h : (if (half2 o0 o1).toNat < 0x1800 then Except.ok (Instr.mmr ((half2 o0 o1).setWidth 13), rest)
      else .error (DecodeError.offsetAboveRom (half2 o0 o1))) = Except.ok (i, after) := h
    split at h
    · next hrom =>
      cases h
      refine decide_eq_true ?_
      rw [BitVec.toNat_setWidth]
      exact (Nat.mod_le _ _).trans_lt hrom
    · cases h
  all_goals cases h

theorem wellFormed_of_decodeBody_tick (h : decodeBody 0x0A bs = .ok (i, after)) : i.wellFormed = true := by
  cases h
  rfl

theorem wellFormed_of_decodeBody_opcode (h : decodeBody 0x10 bs = .ok (i, after)) : i.wellFormed = true := by
  rcases bs with _ | ⟨b0, _ | ⟨b1, _ | ⟨b2, _ | ⟨b3, rest⟩⟩⟩⟩ <;> cases h
  exact wellFormed_opcodeRow _ _

theorem wellFormed_of_decodeBody_drawMode (h : decodeBody 0x11 bs = .ok (i, after)) : i.wellFormed = true := by
  rcases bs with _ | ⟨b0, _ | ⟨b1, _ | ⟨b2, _ | ⟨b3, _ | ⟨c, _ | ⟨r, rest⟩⟩⟩⟩⟩⟩
  case cons.cons.cons.cons.cons.cons =>
    replace h : (match decodeFlag c, decodeFlag r with
      | some fc, some fr => Except.ok (drawModeRow ((word4 b0 b1 b2 b3).extractLsb' 4 2) fc fr, rest)
      | none, _ => .error (DecodeError.badFlag c)
      | _, none => .error (DecodeError.badFlag r)) = Except.ok (i, after) := h
    split at h <;> cases h
    exact wellFormed_drawModeRow _ _ _
  all_goals cases h

theorem wellFormed_of_decodeBody_maskMode (h : decodeBody 0x12 bs = .ok (i, after)) : i.wellFormed = true := by
  rcases bs with _ | ⟨b0, _ | ⟨b1, _ | ⟨b2, _ | ⟨b3, _ | ⟨x0, _ | ⟨x1, _ | ⟨x2, _ | ⟨x3, _ | ⟨y0, _ | ⟨y1, _ | ⟨y2,
    _ | ⟨y3, rest⟩⟩⟩⟩⟩⟩⟩⟩⟩⟩⟩⟩ <;> cases h
  exact wellFormed_maskModeRow _ _ _

theorem wellFormed_of_decodeBody_octant (h : decodeBody 0x13 bs = .ok (i, after)) : i.wellFormed = true := by
  rcases bs with _ | ⟨b0, _ | ⟨b1, _ | ⟨b2, _ | ⟨b3, rest⟩⟩⟩⟩ <;> cases h
  exact wellFormed_octantRow _

theorem wellFormed_of_decodeBody_fgSrc (h : decodeBody 0x14 bs = .ok (i, after)) : i.wellFormed = true := by
  rcases bs with _ | ⟨b0, _ | ⟨b1, _ | ⟨b2, _ | ⟨b3, _ | ⟨x0, _ | ⟨x1, _ | ⟨x2, _ | ⟨x3, _ | ⟨y0, _ | ⟨y1, _ | ⟨y2,
    _ | ⟨y3, rest⟩⟩⟩⟩⟩⟩⟩⟩⟩⟩⟩⟩ <;> cases h
  exact wellFormed_fgSrcRow _ _ _ _

theorem wellFormed_of_decodeBody_bgSrc (h : decodeBody 0x15 bs = .ok (i, after)) : i.wellFormed = true := by
  rcases bs with _ | ⟨b0, _ | ⟨b1, _ | ⟨b2, _ | ⟨b3, _ | ⟨x0, _ | ⟨x1, _ | ⟨x2, _ | ⟨x3, _ | ⟨y0, _ | ⟨y1, _ | ⟨y2,
    _ | ⟨y3, rest⟩⟩⟩⟩⟩⟩⟩⟩⟩⟩⟩⟩ <;> cases h
  exact wellFormed_bgSrcRow _ _ _ _

theorem wellFormed_of_decodeBody_pattern (h : decodeBody 0x16 bs = .ok (i, after)) : i.wellFormed = true := by
  rcases bs with _ | ⟨b0, _ | ⟨b1, _ | ⟨b2, _ | ⟨b3, _ | ⟨x0, _ | ⟨x1, _ | ⟨x2, _ | ⟨x3, _ | ⟨y0, _ | ⟨y1, _ | ⟨y2,
    _ | ⟨y3, rest⟩⟩⟩⟩⟩⟩⟩⟩⟩⟩⟩⟩ <;> cases h
  exact wellFormed_patternRow _ _ _

theorem wellFormed_of_decodeBody_srcMapSel (h : decodeBody 0x17 bs = .ok (i, after)) : i.wellFormed = true := by
  rcases bs with _ | ⟨b0, _ | ⟨b1, _ | ⟨b2, _ | ⟨b3, rest⟩⟩⟩⟩ <;> cases h
  rfl

theorem wellFormed_of_decodeBody_dstMapSel (h : decodeBody 0x18 bs = .ok (i, after)) : i.wellFormed = true := by
  rcases bs with _ | ⟨b0, _ | ⟨b1, _ | ⟨b2, _ | ⟨b3, rest⟩⟩⟩⟩ <;> cases h
  rfl

theorem wellFormed_of_decodeBody_mix (h : decodeBody 0x20 bs = .ok (i, after)) : i.wellFormed = true := by
  rcases bs with _ | ⟨c, _ | ⟨d0, _ | ⟨d1, _ | ⟨d2, _ | ⟨d3, _ | ⟨s0, _ | ⟨s1, _ | ⟨s2, _ | ⟨s3, rest⟩⟩⟩⟩⟩⟩⟩⟩⟩ <;>
    cases h
  exact wellFormed_mixRow _ _ _

theorem wellFormed_of_decodeBody_compare (h : decodeBody 0x21 bs = .ok (i, after)) : i.wellFormed = true := by
  rcases bs with _ | ⟨c, _ | ⟨d0, _ | ⟨d1, _ | ⟨d2, _ | ⟨d3, rest⟩⟩⟩⟩⟩ <;> cases h
  exact wellFormed_compareRow _ _

theorem wellFormed_of_decodeBody_stroke (h : decodeBody 0x22 bs = .ok (i, after)) : i.wellFormed = true := by
  rcases bs with _ | ⟨b, rest⟩ <;> cases h
  exact wellFormed_strokeRow _ _ _

theorem wellFormed_of_decodeBody_format (h : decodeBody 0x23 bs = .ok (i, after)) : i.wellFormed = true := by
  rcases bs with _ | ⟨c, rest⟩
  · cases h
  · replace h : (match decodePixAccess 0x23 rest with
      | .ok (acc, rest) => Except.ok (formatRow (c.extractLsb' 0 3) (c.getLsbD 3) acc, rest)
      | .error e => .error e) = Except.ok (i, after) := h
    split at h <;> cases h
    exact wellFormed_formatRow _ _ _

theorem wellFormed_of_decodeBody_register (h : decodeBody 0x30 bs = .ok (i, after)) : i.wellFormed = true := by
  rcases bs with _ | ⟨off, rest⟩
  · cases h
  · replace h : (match decodeRegAccess 0x30 rest with
      | .ok (acc, rest) =>
        match registerRow off acc with
        | some i => Except.ok (i, rest)
        | none => .error (DecodeError.noRegister off)
      | .error e => .error e) = Except.ok (i, after) := h
    split at h
    · next hacc =>
      split at h
      · next hrow => cases h; exact wellFormed_registerRow hrow (decodeRegAccess_wellFormed hacc)
      · cases h
    · cases h

theorem wellFormed_of_decodeBody_port (h : decodeBody 0x31 bs = .ok (i, after)) : i.wellFormed = true := by
  rcases bs with _ | ⟨port, rest⟩
  · cases h
  · replace h : (match decodeByteAccess 0x31 rest with
      | .ok (acc, rest) => Except.ok (portRow (port.extractLsb' 0 4) acc, rest)
      | .error e => .error e) = Except.ok (i, after) := h
    split at h <;> cases h
    exact wellFormed_portRow _ _

theorem wellFormed_of_decodeBody_subRegister (h : decodeBody 0x32 bs = .ok (i, after)) : i.wellFormed = true := by
  rcases bs with _ | ⟨index, rest⟩
  · cases h
  · replace h : (match decodeByteAccess 0x32 rest with
      | .ok (acc, rest) =>
        match subRegisterRow index acc with
        | some i => Except.ok (i, rest)
        | none => .error (DecodeError.noSubRegister index)
      | .error e => .error e) = Except.ok (i, after) := h
    split at h
    · split at h
      · next hrow => cases h; exact wellFormed_subRegisterRow hrow
      · cases h
    · cases h

end

theorem decodeBody_wellFormed {tag : Byte} {bs after : List Byte} {i : Instr}
    (h : decodeBody tag bs = .ok (i, after)) : i.wellFormed = true := by
  by_cases htag : tag ∈ formatTags
  · unfold formatTags at htag
    fin_cases htag
    · exact wellFormed_of_decodeBody_wr h
    · exact wellFormed_of_decodeBody_rd h
    · exact wellFormed_of_decodeBody_cmd h
    · exact wellFormed_of_decodeBody_ssv h
    · exact wellFormed_of_decodeBody_out h
    · exact wellFormed_of_decodeBody_inp h
    · exact wellFormed_of_decodeBody_apw h
    · exact wellFormed_of_decodeBody_apr h
    · exact wellFormed_of_decodeBody_mmr h
    · exact wellFormed_of_decodeBody_tick h
    · exact wellFormed_of_decodeBody_opcode h
    · exact wellFormed_of_decodeBody_drawMode h
    · exact wellFormed_of_decodeBody_maskMode h
    · exact wellFormed_of_decodeBody_octant h
    · exact wellFormed_of_decodeBody_fgSrc h
    · exact wellFormed_of_decodeBody_bgSrc h
    · exact wellFormed_of_decodeBody_pattern h
    · exact wellFormed_of_decodeBody_srcMapSel h
    · exact wellFormed_of_decodeBody_dstMapSel h
    · exact wellFormed_of_decodeBody_mix h
    · exact wellFormed_of_decodeBody_compare h
    · exact wellFormed_of_decodeBody_stroke h
    · exact wellFormed_of_decodeBody_format h
    · exact wellFormed_of_decodeBody_register h
    · exact wellFormed_of_decodeBody_port h
    · exact wellFormed_of_decodeBody_subRegister h
  · rw [decodeBody_unknown htag] at h
    cases h

/-- Settles O6: row by row one way, tag by tag the other. -/
theorem decodeEncodeAgree : Obligations.DecodeEncodeAgree := by
  refine ⟨fun i after hi => decode_encode after i hi, ?_⟩
  intro bytes after i h
  cases bytes with
  | nil => cases h
  | cons tag bs => exact decodeBody_wellFormed h

end Sys2Proof.Machine
end

section
/-! Writes of the register block (R113, R253): the rows that make them, what one byte changes of a register, and what a
merge leaves at every offset of the default map. -/

-- Theorem bodies in sequence: many waiting at once would each hold a thread of the compile.
set_option Elab.async false

namespace Sys2Proof.Machine

/-! ## The rows that write -/

theorem exec_wr (off : BitVec 7) (len : Len) (val : Word) (s : State) :
    exec (.wr off len val) s = .next (s.wr off.toNat len val) := rfl

theorem touchesLane3_iff (m : List AccEntry) (r : AccReg) (off n : Nat) :
    touchesLane3 m r off n = true ↔ ∃ k < n, accLane m (off + k) = some (r, 3) := by
  simp only [touchesLane3, List.any_eq_true, List.mem_range, decide_eq_true_eq]

/-- Beyond the block a byte reaches no register (R252). -/
theorem accMerge_of_beyond (m : List AccEntry) (a : Accel) {off : Nat} (h : 0x80 ≤ off) (bs : List Byte) :
    accMerge m a off bs = a := by
  induction bs generalizing off with
  | nil => rfl
  | cons b bs ih => rw [accMerge, accWriteByte, accLane_of_beyond m h, ih (by omega)]

theorem touchesLane3_of_beyond (m : List AccEntry) (r : AccReg) {off : Nat} (h : 0x80 ≤ off) (n : Nat) :
    touchesLane3 m r off n = false := by
  rw [← Bool.not_eq_true, touchesLane3_iff]
  rintro ⟨k, -, hk⟩
  rw [accLane_of_beyond m (by omega)] at hk
  cases hk

theorem State.wr_of_beyond (s : State) {off : Nat} (h : 0x80 ≤ off) (len : Len) (val : Word) :
    s.wr off len val = s := by
  simp only [State.wr, State.wrBytes, accMerge_of_beyond _ _ h, touchesLane3_of_beyond _ _ h, Bool.false_eq_true,
    if_false]

/-- The merge of a write, before its triggers (R253). -/
def State.merged (s : State) (off : Nat) (bs : List Byte) : State :=
  s.withAcc (accMerge s.cfg.accelRegMap s.acc off bs)

/-- The merged state after the first of the two triggers (R256). -/
def State.commandTriggered (s : State) (off : Nat) (bs : List Byte) : State :=
  if touchesLane3 s.cfg.accelRegMap .command off bs.length then (s.merged off bs).commandTrigger else s.merged off bs

theorem State.wrBytes_eq (s : State) (off : Nat) (bs : List Byte) :
    s.wrBytes off bs =
      if touchesLane3 s.cfg.accelRegMap .shortStroke off bs.length then
        (s.commandTriggered off bs).shortStrokeTrigger
      else s.commandTriggered off bs := rfl

/-- In the default map an entry's register stands at the entry's offset and nowhere else (D20). -/
theorem offsetOf_accelRegMap : ∀ e ∈ Config.accelRegMap, offsetOf Config.accelRegMap e.reg = e.off := by
  decide

theorem eq_of_accLane_accelRegMap {o lane : Nat} {r : AccReg} (h : accLane Config.accelRegMap o = some (r, lane)) :
    o = offsetOf Config.accelRegMap r + lane := by
  obtain ⟨e, he, -, rfl, rfl⟩ := accLane_eq_some h
  rw [offsetOf_accelRegMap e he]

/-- Settles O16: a write is its merge and its two triggers, and a register's row is such a write. -/
theorem writeMergesLanesThenTriggers : Obligations.WriteMergesLanesThenTriggers := by
  refine ⟨?writes, ?lanes, by decide⟩
  case writes =>
    intro off len val s
    dsimp only
    have htouches (r : AccReg) := touchesLane3_iff s.cfg.accelRegMap r off.toNat (bytesOf val len.bytes).length
    simp only [length_bytesOf] at htouches
    refine ⟨s.commandTriggered off.toNat (bytesOf val len.bytes), s.wr off.toNat len val, fun h => ?_, fun h => ?_,
      fun h => ?_, fun h => ?_, exec_wr off len val s, fun p hp => ?_⟩
    · rw [State.commandTriggered, length_bytesOf, if_pos ((htouches _).2 h)]; rfl
    · rw [State.commandTriggered, length_bytesOf, if_neg (mt (htouches _).1 h)]; rfl
    · rw [State.wr, State.wrBytes_eq, length_bytesOf, if_pos ((htouches _).2 h)]
    · rw [State.wr, State.wrBytes_eq, length_bytesOf, if_neg (mt (htouches _).1 h)]
    · rw [exec_regRow hp, State.accessRegister]
      exact ⟨fun hoff => by rw [hoff], fun hoff => by rw [State.wr_of_beyond s hoff]⟩
  case lanes =>
    refine fun o => ⟨⟨fun h => eq_of_accLane_accelRegMap h, ?_⟩, ⟨fun h => eq_of_accLane_accelRegMap h, ?_⟩⟩
    · rintro rfl; rfl
    · rintro rfl; rfl

/-! ## One byte of a register -/

theorem getLsbD_setByteLane (w : Word) (k : Nat) (b : Byte) {i : Nat} (hi : i < 32) :
    (setByteLane w k b).getLsbD i = if 8 * k ≤ i ∧ i < 8 * k + 8 then b.getLsbD (i - 8 * k) else w.getLsbD i := by
  have hones : (0xFF#32).getLsbD (i - 8 * k) = decide (i - 8 * k < 8) := by
    rw [show (0xFF#32) = BitVec.ofNat 32 (2 ^ 8 - 1) from rfl, BitVec.getLsbD_ofNat, Nat.testBit_two_pow_sub_one]
    simp only [Bool.and_eq_right_iff_imp, decide_eq_true_eq]
    omega
  rw [setByteLane, BitVec.getLsbD_or, BitVec.getLsbD_and, BitVec.getLsbD_not, BitVec.getLsbD_shiftLeft,
    BitVec.getLsbD_shiftLeft, BitVec.getLsbD_setWidth, hones]
  grind

theorem byteLane_setByteLane (w : Word) (b : Byte) {k j : Nat} (hj : j < 4) :
    byteLane (setByteLane w k b) j = if j = k then b else byteLane w j := by
  refine BitVec.eq_of_getLsbD_eq fun i hi => ?_
  rw [getLsbD_byteLane _ _ _ hi, getLsbD_setByteLane _ _ _ (by omega)]
  by_cases hjk : j = k
  · rw [hjk, if_pos (by omega), if_pos rfl, Nat.add_sub_cancel_left]
  · rw [if_neg (by omega), if_neg hjk, getLsbD_byteLane _ _ _ hi]

/-! ## One register -/

theorem MapBank.get_set_same (m : MapBank) (i : BitVec 2) (d : MapDesc) : MapBank.get (MapBank.set m i d) i = d := by
  obtain ⟨⟨k, hk⟩⟩ := i
  interval_cases k <;> rfl

theorem MapBank.get_set_other (m : MapBank) {i j : BitVec 2} (hij : i ≠ j) (d : MapDesc) :
    MapBank.get (MapBank.set m i d) j = MapBank.get m j := by
  obtain ⟨⟨k, hk⟩⟩ := i
  obtain ⟨⟨l, hl⟩⟩ := j
  interval_cases k <;> interval_cases l <;> first | rfl | exact absurd rfl hij

theorem setWidth_setWidth_ones (v : Word) {n : Nat} (hn : n ≤ 32) :
    (v.setWidth n).setWidth 32 = v &&& BitVec.ofNat 32 (2 ^ n - 1) := by
  refine BitVec.eq_of_toNat_eq ?_
  rw [toNat_and_ones v hn, BitVec.toNat_setWidth_of_le hn, BitVec.toNat_setWidth]

/-- A register holds the bits of the written value that it has (R10, R255). -/
theorem accGet_accSet_same (a : Accel) (r : AccReg) (v : Word) :
    accGet (accSet a r v) r = v &&& BitVec.ofNat 32 (2 ^ accWidth r - 1) := by
  have hwhole : v &&& BitVec.ofNat 32 (2 ^ 32 - 1) = v := and_ones_of_lt (Nat.le_refl 32) v.isLt
  cases r with
  | shortStroke | colorCmp | planeMask | frgdColor | bkgdColor | command => exact hwhole.symm
  | mapBase => rw [accGet, accSet, MapBank.get_set_same]; exact hwhole.symm
  | mapWidth | mapHeight | mapFormat =>
    rw [accGet, accSet, MapBank.get_set_same]; exact setWidth_setWidth_ones v (by decide)
  | _ => exact setWidth_setWidth_ones v (by decide)

/-- A write of a register changes no other, but for the descriptor registers when the map index moves (R254). -/
theorem accGet_accSet_other (a : Accel) {r q : AccReg} (hrq : q ≠ r) (hr : r ≠ .pxMapIdx) (v : Word) :
    accGet (accSet a r v) q = accGet a q := by
  cases r with
  | pxMapIdx => exact absurd rfl hr
  | mapBase | mapWidth | mapHeight | mapFormat =>
    cases q with
    | mapBase | mapWidth | mapHeight | mapFormat =>
      first | exact absurd rfl hrq | simp only [accGet, accSet, MapBank.get_set_same]
    | _ => rfl
  | _ => cases q <;> first | rfl | exact absurd rfl hrq

theorem accSet_pxMapIdx (a : Accel) {r : AccReg} (hr : r ≠ .pxMapIdx) (v : Word) :
    (accSet a r v).pxMapIdx = a.pxMapIdx := by
  cases r with
  | pxMapIdx => exact absurd rfl hr
  | _ => rfl

/-- Only the descriptor that the map index selects is written (R254). -/
theorem accSet_maps_other (a : Accel) (r : AccReg) (v : Word) {i : BitVec 2} (hi : i ≠ a.pxMapIdx) :
    MapBank.get (accSet a r v).maps i = MapBank.get a.maps i := by
  cases r with
  | mapBase | mapWidth | mapHeight | mapFormat => exact MapBank.get_set_other _ hi.symm _
  | _ => rfl

/-! ## One byte of the block under the default map (D20) -/

theorem accWriteByte_of_some {m : List AccEntry} {off : Nat} {r : AccReg} {lane : Nat}
    (h : accLane m off = some (r, lane)) (a : Accel) (b : Byte) :
    accWriteByte m a off b = accSet a r (setByteLane (accGet a r) lane b) := by
  rw [accWriteByte, h]

theorem accWriteByte_of_none {m : List AccEntry} {off : Nat} (h : accLane m off = none) (a : Accel) (b : Byte) :
    accWriteByte m a off b = a := by
  rw [accWriteByte, h]

theorem laneMask_of_none {o : Nat} (h : accLane Config.accelRegMap o = none) : laneMask o = 0 := by
  have hblock : ∀ o < 0x80, accLane Config.accelRegMap o = none → laneMask o = 0 := by decide
  rcases Nat.lt_or_ge o 0x80 with hin | hout
  · exact hblock o hin h
  · simp only [laneMask]
    repeat rw [if_neg (by omega)]

/-- No register of the default map stands below the map index's. -/
theorem accLane_of_below {o : Nat} (h : o < 0x12) : accLane Config.accelRegMap o = none := by
  interval_cases o <;> rfl

theorem accWriteByte_pxMapIdx (a : Accel) (b : Byte) :
    accWriteByte Config.accelRegMap a 0x12 b = { a with pxMapIdx := b.setWidth 2 } := by
  have hlow : (setByteLane (a.pxMapIdx.setWidth 32) 0 b).setWidth 2 = b.setWidth 2 := by
    refine BitVec.eq_of_getLsbD_eq fun i hi => ?_
    rw [BitVec.getLsbD_setWidth, BitVec.getLsbD_setWidth, getLsbD_setByteLane _ _ _ (by omega), if_pos (by omega)]
    rfl
  exact congrArg (fun v => { a with pxMapIdx := v }) hlow

theorem reg_ne_pxMapIdx {o lane : Nat} {r : AccReg} (h : accLane Config.accelRegMap o = some (r, lane))
    (ho : o ≠ 0x12) : r ≠ .pxMapIdx := by
  obtain ⟨e, he, hlane, rfl, rfl⟩ := accLane_eq_some h
  have hone : ∀ e ∈ Config.accelRegMap, e.reg = .pxMapIdx → e.off = 0x12 ∧ e.bytes = 1 := by decide
  intro hreg
  have := hone e he hreg
  omega

theorem lane_lt {o lane : Nat} {r : AccReg} (h : accLane Config.accelRegMap o = some (r, lane)) : lane < 4 := by
  obtain ⟨e, he, hlane, -, -⟩ := accLane_eq_some h
  have hbytes : ∀ e ∈ Config.accelRegMap, e.bytes ≤ 4 := by decide
  have := hbytes e he
  omega

/-- The mask of an offset is that of its register's lane. -/
theorem laneMask_of_some {o lane : Nat} {r : AccReg} (h : accLane Config.accelRegMap o = some (r, lane)) :
    byteLane (BitVec.ofNat 32 (2 ^ accWidth r - 1)) lane = laneMask o := by
  obtain ⟨e, he, hlane, rfl, rfl⟩ := accLane_eq_some h
  exact laneMask_accelRegMap e he lane hlane

section
variable {s : State} (hmap : s.cfg.accelRegMap = Config.accelRegMap) (a : Accel)
include hmap

theorem rdByte_withAcc_of_none {o : Nat} (h : accLane Config.accelRegMap o = none) : (s.withAcc a).rdByte o = 0 :=
  State.rdByte_of_none (s := s.withAcc a) (by rw [← hmap] at h; exact h)

theorem rdByte_withAcc_of_some {o lane : Nat} {r : AccReg} (h : accLane Config.accelRegMap o = some (r, lane)) :
    (s.withAcc a).rdByte o = byteLane (accGet a r) lane :=
  State.rdByte_of_some (s := s.withAcc a) (by rw [← hmap] at h; exact h)

/-- A byte that leaves the map index alone reads back under its mask, and changes no other byte. -/
theorem rdByte_accWriteByte {off : Nat} (hoff : off ≠ 0x12) (b : Byte) (o : Nat) :
    (s.withAcc (accWriteByte Config.accelRegMap a off b)).rdByte o =
      if o = off then b &&& laneMask off else (s.withAcc a).rdByte o := by
  cases hat : accLane Config.accelRegMap off with
  | none =>
    rw [accWriteByte_of_none hat, laneMask_of_none hat]
    split
    · next ho => rw [ho, rdByte_withAcc_of_none hmap a hat]; exact BitVec.and_zero.symm
    · rfl
  | some p =>
    obtain ⟨r, lane⟩ := p
    have hr := reg_ne_pxMapIdx hat hoff
    rw [accWriteByte_of_some hat]
    cases hread : accLane Config.accelRegMap o with
    | none =>
      have ho : o ≠ off := by rintro rfl; rw [hat] at hread; cases hread
      rw [if_neg ho, rdByte_withAcc_of_none hmap _ hread, rdByte_withAcc_of_none hmap _ hread]
    | some q =>
      obtain ⟨r', lane'⟩ := q
      have hlane' := lane_lt hread
      rw [rdByte_withAcc_of_some hmap _ hread, rdByte_withAcc_of_some hmap _ hread]
      by_cases hreg : r' = r
      · subst hreg
        have hplace : o = off ↔ lane' = lane := by
          rw [eq_of_accLane_accelRegMap hread, eq_of_accLane_accelRegMap hat, Nat.add_left_cancel_iff]
        rw [accGet_accSet_same, byteLane_and, byteLane_setByteLane _ _ hlane']
        by_cases ho : o = off
        · rw [if_pos ho, if_pos (hplace.1 ho), hplace.1 ho, laneMask_of_some hat]
        · rw [if_neg ho, if_neg (mt hplace.2 ho), ← byteLane_accGet]
      · have ho : o ≠ off := by
          rintro rfl
          rw [hat] at hread
          cases hread
          exact hreg rfl
        rw [if_neg ho, accGet_accSet_other a hreg hr]

end

theorem accWriteByte_keeps_pxMapIdx (a : Accel) {off : Nat} (hoff : off ≠ 0x12) (b : Byte) :
    (accWriteByte Config.accelRegMap a off b).pxMapIdx = a.pxMapIdx := by
  cases hat : accLane Config.accelRegMap off with
  | none => rw [accWriteByte_of_none hat]
  | some p => rw [accWriteByte_of_some hat]; exact accSet_pxMapIdx a (reg_ne_pxMapIdx hat hoff) _

theorem accWriteByte_keeps_maps (m : List AccEntry) (a : Accel) (off : Nat) (b : Byte) {i : BitVec 2}
    (hi : i ≠ a.pxMapIdx) : MapBank.get (accWriteByte m a off b).maps i = MapBank.get a.maps i := by
  cases hat : accLane m off with
  | none => rw [accWriteByte_of_none hat]
  | some p => rw [accWriteByte_of_some hat]; exact accSet_maps_other a _ _ hi

/-! ## The merge under the default map -/

/-- The map index after a merge (R254): the byte at its offset, where the write covers it. -/
def mergedIdx (idx : BitVec 2) (off : Nat) (bs : List Byte) : BitVec 2 :=
  if off ≤ 0x12 ∧ 0x12 < off + bs.length then (bs.getD (0x12 - off) 0).setWidth 2 else idx

/-- What a merge leaves: the map index, every byte of the block, the descriptors the map index does not select. -/
structure MergeReadsBack (s : State) (a a' : Accel) (off : Nat) (bs : List Byte) : Prop where
  idx : a'.pxMapIdx = mergedIdx a.pxMapIdx off bs
  bytes : ∀ o, (s.withAcc a').rdByte o =
    if off ≤ o ∧ o < off + bs.length then bs.getD (o - off) 0 &&& laneMask o
    else (s.withAcc { a with pxMapIdx := mergedIdx a.pxMapIdx off bs }).rdByte o
  maps : ∀ i, i ≠ mergedIdx a.pxMapIdx off bs → MapBank.get a'.maps i = MapBank.get a.maps i

theorem mergedIdx_of_above (idx : BitVec 2) {off : Nat} (h : 0x12 < off) (bs : List Byte) :
    mergedIdx idx off bs = idx := if_neg (by omega)

theorem mergedIdx_cons_at (idx : BitVec 2) (b : Byte) (bs : List Byte) :
    mergedIdx idx 0x12 (b :: bs) = b.setWidth 2 := by
  simp [mergedIdx]

theorem mergedIdx_cons_other (idx : BitVec 2) {off : Nat} (hoff : off ≠ 0x12) (b : Byte) (bs : List Byte) :
    mergedIdx idx off (b :: bs) = mergedIdx idx (off + 1) bs := by
  unfold mergedIdx
  rw [List.length_cons]
  by_cases hin : off ≤ 0x12 ∧ 0x12 < off + (bs.length + 1)
  · rw [if_pos hin, if_pos (by omega), show 0x12 - off = (0x12 - (off + 1)) + 1 by omega, List.getD_cons_succ]
  · rw [if_neg hin, if_neg (by omega)]

/-- The first byte of a merge, with the map index already at its last value: the byte reads back, nothing else moves. -/
theorem accWriteByte_firstOfMerge {s : State} (hmap : s.cfg.accelRegMap = Config.accelRegMap) (a : Accel) (off : Nat)
    (b : Byte) (bs : List Byte) :
    let a1 := accWriteByte Config.accelRegMap a off b
    let idx := mergedIdx a.pxMapIdx off (b :: bs)
    mergedIdx a1.pxMapIdx (off + 1) bs = idx ∧
    (∀ o, (s.withAcc { a1 with pxMapIdx := idx }).rdByte o =
      if o = off then b &&& laneMask off else (s.withAcc { a with pxMapIdx := idx }).rdByte o) ∧
    ∀ i, i ≠ idx → MapBank.get a1.maps i = MapBank.get a.maps i := by
  dsimp only
  rcases Nat.lt_trichotomy off 0x12 with hbelow | rfl | habove
  · have hnone := accLane_of_below hbelow
    rw [accWriteByte_of_none hnone, mergedIdx_cons_other _ (by omega)]
    refine ⟨rfl, fun o => ?_, fun i _ => rfl⟩
    split
    · next ho => rw [ho, rdByte_withAcc_of_none hmap _ hnone, laneMask_of_none hnone]; exact BitVec.and_zero.symm
    · rfl
  · rw [accWriteByte_pxMapIdx, mergedIdx_cons_at, mergedIdx_of_above _ (by decide)]
    refine ⟨rfl, fun o => ?_, fun i _ => rfl⟩
    split
    · next ho =>
      have hmask : ∀ c : Byte, byteLane ((c.setWidth 2).setWidth 32) 0 = c &&& laneMask 0x12 := by decide
      rw [ho, rdByte_withAcc_of_some hmap _ (r := .pxMapIdx) (lane := 0) rfl]
      exact hmask b
    · rfl
  · have hoff : off ≠ 0x12 := by omega
    have hidx := accWriteByte_keeps_pxMapIdx a hoff b
    have hsame : { accWriteByte Config.accelRegMap a off b with pxMapIdx := a.pxMapIdx } =
        accWriteByte Config.accelRegMap a off b := by
      rw [← hidx]
    rw [mergedIdx_of_above _ (by omega), mergedIdx_of_above _ habove, hsame]
    exact ⟨hidx, rdByte_accWriteByte hmap a hoff b, fun i hi => accWriteByte_keeps_maps _ a off b hi⟩

theorem accMerge_readsBack {s : State} (hmap : s.cfg.accelRegMap = Config.accelRegMap) (a : Accel) (off : Nat)
    (bs : List Byte) : MergeReadsBack s a (accMerge Config.accelRegMap a off bs) off bs := by
  induction bs generalizing a off with
  | nil =>
    have hidx : mergedIdx a.pxMapIdx off [] = a.pxMapIdx := if_neg (by simp)
    exact ⟨hidx.symm, fun o => by rw [hidx, if_neg (by simp)]; rfl, fun i _ => rfl⟩
  | cons b bs ih =>
    obtain ⟨hidx, hbytes, hmaps⟩ := ih (accWriteByte Config.accelRegMap a off b) (off + 1)
    obtain ⟨hsame, hfirst, hfirstMaps⟩ := accWriteByte_firstOfMerge hmap a off b bs
    rw [hsame] at hidx hbytes hmaps
    refine ⟨hidx, fun o => ?_, fun i hi => (hmaps i hi).trans (hfirstMaps i hi)⟩
    rw [accMerge, hbytes, hfirst, List.length_cons]
    by_cases ho : o = off
    · rw [ho, if_neg (by omega), if_pos rfl, if_pos (by omega), Nat.sub_self, List.getD_cons_zero]
    · by_cases hin : off + 1 ≤ o ∧ o < off + 1 + bs.length
      · rw [if_pos hin, if_pos (by omega), show o - off = (o - (off + 1)) + 1 by omega, List.getD_cons_succ]
      · rw [if_neg hin, if_neg ho, if_neg (by omega)]

/-- Settles O17: the merge of a row's bytes reads back. -/
theorem mergedBytesReadBack : Obligations.MergedBytesReadBack := by
  intro off len val s hmap
  obtain ⟨hidx, hbytes, hmaps⟩ := accMerge_readsBack hmap s.acc off.toNat (bytesOf val len.bytes)
  have hcovered : mergedIdx s.acc.pxMapIdx off.toNat (bytesOf val len.bytes) =
      if off.toNat ≤ 0x12 ∧ 0x12 < off.toNat + len.bytes then (byteLane val (0x12 - off.toNat)).setWidth 2
      else s.acc.pxMapIdx := by
    rw [mergedIdx, length_bytesOf]
    split
    · next hin => rw [getD_bytesOf, if_pos (by omega)]
    · rfl
  rw [hcovered] at hidx hbytes hmaps
  dsimp only
  rw [hmap]
  refine ⟨hidx, fun o => ?_, hmaps⟩
  rw [hbytes, length_bytesOf]
  split
  · next hin => rw [getD_bytesOf, if_pos (by omega)]
  · rfl

end Sys2Proof.Machine
end

section
/-! The command and the short-stroke register written in parts (R236, R256, R257): what a merge into one 32-bit register
leaves, the word whose opcode field is given (R102), and the triggers. -/

-- Theorem bodies in sequence: many waiting at once would each hold a thread of the compile.
set_option Elab.async false

namespace Sys2Proof.Machine

/-! ## The word of an opcode (R102, log 27) -/

/-- A field below bit 32 of a word, as a number. -/
theorem toNat_extractLsb'_ofNat (x : Nat) {p n : Nat} (h : p + n ≤ 32) :
    ((BitVec.ofNat 32 x).extractLsb' p n).toNat = x / 2 ^ p % 2 ^ n := by
  obtain ⟨k, hk⟩ := Nat.exists_eq_add_of_le h
  rw [BitVec.extractLsb'_toNat, BitVec.toNat_ofNat, Nat.shiftRight_eq_div_pow, hk, Nat.add_assoc, Nat.pow_add 2 p,
    Nat.mod_mul_right_div_self]
  exact Nat.mod_mod_of_dvd _ (Nat.pow_dvd_pow 2 (Nat.le_add_right n k))

theorem opcode_commandWord (l : CmdLayout) (code : BitVec 4) (rest : BitVec 28) :
    (cmdFields l (commandWord l code rest)).opcode = code := by
  have hpos : 0 < 2 ^ l.opcode.val := Nat.two_pow_pos _
  have hfit : l.opcode.val + 4 ≤ 32 := by have := l.opcode.isLt; omega
  have hdiv : (rest.toNat % 2 ^ l.opcode.val + code.toNat * 2 ^ l.opcode.val +
      rest.toNat / 2 ^ l.opcode.val * 2 ^ (l.opcode.val + 4)) / 2 ^ l.opcode.val =
      code.toNat + rest.toNat / 2 ^ l.opcode.val * 2 ^ 4 := by
    rw [Nat.pow_add, Nat.mul_comm (2 ^ l.opcode.val) (2 ^ 4), ← Nat.mul_assoc, Nat.add_assoc, ← Nat.add_mul,
      Nat.add_mul_div_right _ _ hpos, Nat.div_eq_of_lt (Nat.mod_lt _ hpos), Nat.zero_add]
  refine BitVec.eq_of_toNat_eq ?_
  rw [cmdFields, commandWord, toNat_extractLsb'_ofNat _ hfit, hdiv, Nat.add_mul_mod_self_right]
  exact Nat.mod_eq_of_lt code.isLt

theorem commandWord_cmdLayout (code : BitVec 4) (rest : BitVec 28) :
    commandWord Config.cmdLayout code rest = code ++ rest := by
  refine BitVec.eq_of_toNat_eq ?_
  have hrest := rest.isLt
  have hcode := code.isLt
  have hplace : Config.cmdLayout.opcode.val = 28 := rfl
  rw [BitVec.toNat_append, ← Nat.shiftLeft_add_eq_or_of_lt hrest, Nat.shiftLeft_eq, commandWord, BitVec.toNat_ofNat]
  simp only [hplace]
  omega

/-! ## The command trigger (R256) -/

theorem State.commandTrigger_of_opcode {s : State} {code : BitVec 4} (h : s.cmd.opcode = code) :
    s.commandTrigger = if code = 5 then s.lineDraw else if code = 8 then s.bitBlt else s := by
  rw [State.commandTrigger, h]
  obtain ⟨⟨k, hk⟩⟩ := code
  interval_cases k <;> rfl

/-- The state with a whole command word stored. -/
theorem State.setCommand_eq (s : State) (w : Word) : s.setCommand w = s.withAcc { s.acc with command := w } := rfl

theorem exec_opcodeRow (code : BitVec 4) (rest : BitVec 28) (s : State) :
    exec (opcodeRow code rest) s =
      .next (s.setCommand (commandWord s.cfg.cmdLayout code rest)).commandTrigger := by
  have hop : (s.setCommand (commandWord s.cfg.cmdLayout code rest)).cmd.opcode = code :=
    opcode_commandWord s.cfg.cmdLayout code rest
  rw [State.commandTrigger_of_opcode hop]
  obtain ⟨⟨k, hk⟩⟩ := code
  interval_cases k <;> rfl

/-! ## A 32-bit register written in parts (R113, R116) -/

/-- A word with bytes merged into ascending lanes. -/
def mergeLanes (w : Word) (lane : Nat) : List Byte → Word
  | [] => w
  | b :: bs => mergeLanes (setByteLane w lane b) (lane + 1) bs

theorem getLsbD_mergeLanes (w : Word) (lane : Nat) (bs : List Byte) {i : Nat} (hi : i < 32) :
    (mergeLanes w lane bs).getLsbD i =
      if 8 * lane ≤ i ∧ i < 8 * (lane + bs.length) then (bs.getD (i / 8 - lane) 0).getLsbD (i % 8)
      else w.getLsbD i := by
  induction bs generalizing w lane with
  | nil => rw [mergeLanes, List.length_nil, if_neg (by omega)]
  | cons b bs ih =>
    rw [mergeLanes, ih, getLsbD_setByteLane _ _ _ hi, List.length_cons]
    by_cases hfirst : 8 * lane ≤ i ∧ i < 8 * lane + 8
    · rw [if_neg (by omega), if_pos hfirst, if_pos (by omega), show i / 8 - lane = 0 by omega, List.getD_cons_zero,
        show i - 8 * lane = i % 8 by omega]
    · by_cases hlater : 8 * (lane + 1) ≤ i ∧ i < 8 * (lane + 1 + bs.length)
      · rw [if_pos hlater, if_pos (by omega), show i / 8 - lane = i / 8 - (lane + 1) + 1 by omega, List.getD_cons_succ]
      · rw [if_neg hlater, if_neg hfirst, if_neg (by omega)]

/-- The low bytes of a value, merged into a word from a lane on. -/
theorem getLsbD_mergeLanes_bytesOf (w v : Word) (lane n : Nat) {i : Nat} (hi : i < 32) :
    (mergeLanes w lane (bytesOf v n)).getLsbD i =
      if 8 * lane ≤ i ∧ i < 8 * (lane + n) then v.getLsbD (i - 8 * lane) else w.getLsbD i := by
  rw [getLsbD_mergeLanes _ _ _ hi, length_bytesOf]
  split
  · rw [getD_bytesOf, if_pos (by omega), getLsbD_byteLane _ _ _ (Nat.mod_lt i (by decide))]
    congr 1
    omega
  · rfl

/-- The two registers whose lane 3 triggers (R236, R256). -/
def HasTrigger (r : AccReg) : Prop := r = .command ∨ r = .shortStroke

theorem accMerge_lanes {r : AccReg} (hr : HasTrigger r) {off : Nat}
    (hat : ∀ k < 4, accLane Config.accelRegMap (off + k) = some (r, k)) (a : Accel) (lane : Nat) (bs : List Byte)
    (hlen : lane + bs.length ≤ 4) :
    accMerge Config.accelRegMap a (off + lane) bs = accSet a r (mergeLanes (accGet a r) lane bs) := by
  induction bs generalizing a lane with
  | nil => obtain rfl | rfl := hr <;> rfl
  | cons b bs ih =>
    rw [List.length_cons] at hlen
    rw [accMerge, accWriteByte_of_some (hat lane (by omega)), Nat.add_assoc, ih _ _ (by omega), mergeLanes]
    obtain rfl | rfl := hr <;> rfl

/-- Under the default map one offset is a triggering register's lane 3 (D20). -/
theorem touchesLane3_accelRegMap {r : AccReg} {last : Nat} (hlast : accLane Config.accelRegMap last = some (r, 3))
    (off n : Nat) :
    touchesLane3 Config.accelRegMap r off n = decide (off ≤ last ∧ last < off + n) := by
  rw [Bool.eq_iff_iff, touchesLane3_iff, decide_eq_true_eq]
  constructor
  · rintro ⟨k, hk, hat⟩
    have := eq_of_accLane_accelRegMap hat
    have := eq_of_accLane_accelRegMap hlast
    omega
  · rintro ⟨hlo, hhi⟩
    exact ⟨last - off, by omega, by rw [Nat.add_sub_of_le hlo, hlast]⟩

section
variable {s : State} (hmap : s.cfg.accelRegMap = Config.accelRegMap) {lane : Nat} {len : Len}
  (hlen : lane + len.bytes ≤ 4) (v : Word)
include hmap hlen

/-- A write inside the command register stores the merged word, and triggers where it reaches the last lane. -/
theorem State.wr_command :
    s.wr (0x7C + lane) len v =
      if lane + len.bytes = 4 then
        (s.setCommand (mergeLanes s.acc.command lane (bytesOf v len.bytes))).commandTrigger
      else s.setCommand (mergeLanes s.acc.command lane (bytesOf v len.bytes)) := by
  have hlanes : ∀ k < 4, accLane Config.accelRegMap (0x7C + k) = some (.command, k) := by decide
  have hmerge := accMerge_lanes (.inl rfl) hlanes s.acc lane (bytesOf v len.bytes) (by rwa [length_bytesOf])
  have hcommand : touchesLane3 Config.accelRegMap .command (0x7C + lane) len.bytes = decide (lane + len.bytes = 4) := by
    have hpos := lenBytes_pos len
    rw [touchesLane3_accelRegMap (last := 0x7F) rfl, decide_eq_decide]
    omega
  have hstroke : touchesLane3 Config.accelRegMap .shortStroke (0x7C + lane) len.bytes = false := by
    rw [touchesLane3_accelRegMap (last := 0x2F) rfl, decide_eq_false_iff_not]
    omega
  rw [State.wr, State.wrBytes_eq, State.commandTriggered, State.merged, length_bytesOf, hmap, hcommand, hstroke, hmerge]
  simp only [decide_eq_true_eq, Bool.false_eq_true, if_false]
  rfl

/-- The same of the short-stroke register and its trigger. -/
theorem State.wr_shortStroke :
    s.wr (0x2C + lane) len v =
      if lane + len.bytes = 4 then
        (s.setShortStroke (mergeLanes s.acc.shortStroke lane (bytesOf v len.bytes))).shortStrokeTrigger
      else s.setShortStroke (mergeLanes s.acc.shortStroke lane (bytesOf v len.bytes)) := by
  have hlanes : ∀ k < 4, accLane Config.accelRegMap (0x2C + k) = some (.shortStroke, k) := by decide
  have hmerge := accMerge_lanes (.inr rfl) hlanes s.acc lane (bytesOf v len.bytes) (by rwa [length_bytesOf])
  have hcommand : touchesLane3 Config.accelRegMap .command (0x2C + lane) len.bytes = false := by
    rw [touchesLane3_accelRegMap (last := 0x7F) rfl, decide_eq_false_iff_not]
    omega
  have hstroke :
      touchesLane3 Config.accelRegMap .shortStroke (0x2C + lane) len.bytes = decide (lane + len.bytes = 4) := by
    have hpos := lenBytes_pos len
    rw [touchesLane3_accelRegMap (last := 0x2F) rfl, decide_eq_decide]
    omega
  rw [State.wr, State.wrBytes_eq, State.commandTriggered, State.merged, length_bytesOf, hmap, hcommand, hstroke, hmerge]
  simp only [decide_eq_true_eq, Bool.false_eq_true, if_false]
  rfl

end

/-! ### The words that the parts make -/

theorem mergeLanes_lowHalf (c w : Word) :
    mergeLanes c 0 (bytesOf (w &&& 0xFFFF) 2) = c.extractLsb' 16 16 ++ w.extractLsb' 0 16 := by
  refine BitVec.eq_of_getLsbD_eq fun i hi => ?_
  have hones : (0xFFFF : Word).getLsbD i = decide (i < 16) := by
    rw [show (0xFFFF : Word) = BitVec.ofNat 32 (2 ^ 16 - 1) from rfl, BitVec.getLsbD_ofNat,
      Nat.testBit_two_pow_sub_one, decide_eq_true hi, Bool.true_and]
  rw [getLsbD_mergeLanes_bytesOf _ _ _ _ hi, BitVec.getLsbD_append, BitVec.getLsbD_and, BitVec.getLsbD_extractLsb',
    BitVec.getLsbD_extractLsb']
  grind

theorem mergeLanes_highHalf (c w : Word) :
    mergeLanes c 2 (bytesOf (w >>> 16) 2) = w.extractLsb' 16 16 ++ c.extractLsb' 0 16 := by
  refine BitVec.eq_of_getLsbD_eq fun i hi => ?_
  rw [getLsbD_mergeLanes_bytesOf _ _ _ _ hi, BitVec.getLsbD_append, BitVec.getLsbD_ushiftRight,
    BitVec.getLsbD_extractLsb', BitVec.getLsbD_extractLsb']
  grind

theorem mergeLanes_whole (c w : Word) : mergeLanes c 0 (bytesOf w 4) = w := by
  refine BitVec.eq_of_getLsbD_eq fun i hi => ?_
  rw [getLsbD_mergeLanes_bytesOf _ _ _ _ hi, if_pos (by omega), Nat.mul_zero, Nat.sub_zero]

/-- The top byte written again leaves the word. -/
theorem mergeLanes_topByte (w : Word) : mergeLanes w 3 (bytesOf (w >>> 24) 1) = w := by
  refine BitVec.eq_of_getLsbD_eq fun i hi => ?_
  rw [getLsbD_mergeLanes_bytesOf _ _ _ _ hi, BitVec.getLsbD_ushiftRight]
  grind

theorem halves_append (w c : Word) :
    w.extractLsb' 16 16 ++ (c.extractLsb' 16 16 ++ w.extractLsb' 0 16).extractLsb' 0 16 = w := by
  rw [extractLsb'_low]
  refine BitVec.eq_of_getLsbD_eq fun i hi => ?_
  rw [BitVec.getLsbD_append, BitVec.getLsbD_extractLsb', BitVec.getLsbD_extractLsb']
  grind

theorem opcode_append_rest (w : Word) : w.extractLsb' 28 4 ++ w.extractLsb' 0 28 = w := by
  refine BitVec.eq_of_getLsbD_eq fun i hi => ?_
  rw [BitVec.getLsbD_append, BitVec.getLsbD_extractLsb', BitVec.getLsbD_extractLsb']
  grind

/-! ## The statements -/

/-- Settles O20: the trigger by its opcode; the writes by the word each leaves and whether it reaches the last lane. -/
theorem splitCommandWriteTriggersOnce : Obligations.SplitCommandWriteTriggersOnce := by
  refine ⟨fun s => ⟨fun h => ?_, fun h => ?_, fun code rest => exec_opcodeRow code rest s⟩, fun w s => ?_⟩
  · rw [State.commandTrigger_of_opcode h]; rfl
  · rw [State.commandTrigger_of_opcode h]; rfl
  refine ⟨rfl, fun hlayout => ?_, fun hmap => ⟨?low, ?highAfterLow, ?highAlone, ?whole, ?again⟩⟩
  · rw [exec_opcodeRow, hlayout, commandWord_cmdLayout, opcode_append_rest, State.setCommand_eq]
  case low =>
    refine congrArg _ ((State.wr_command hmap (lane := 0) (len := .b2) (by decide) _).trans ?_)
    rw [if_neg (by decide), Len.bytes, mergeLanes_lowHalf, State.setCommand_eq]
  case highAfterLow =>
    refine congrArg _ ((State.wr_command
      (s := s.setCommand (s.acc.command.extractLsb' 16 16 ++ w.extractLsb' 0 16)) hmap (lane := 2) (len := .b2)
      (by decide) _).trans ?_)
    rw [if_pos (by decide), Len.bytes, mergeLanes_highHalf, State.setCommand_acc, halves_append]
    rfl
  case highAlone =>
    refine congrArg _ ((State.wr_command hmap (lane := 2) (len := .b2) (by decide) _).trans ?_)
    rw [if_pos (by decide), Len.bytes, mergeLanes_highHalf, State.setCommand_eq]
  case whole =>
    refine congrArg _ ((State.wr_command hmap (lane := 0) (len := .b4) (by decide) _).trans ?_)
    rw [if_pos (by decide), Len.bytes, mergeLanes_whole, State.setCommand_eq]
  case again =>
    refine congrArg _ ((State.wr_command (s := s.setCommand w) hmap (lane := 3) (len := .b1) (by decide) _).trans ?_)
    rw [if_pos (by decide), Len.bytes, State.setCommand_acc, mergeLanes_topByte]
    rfl

/-- The short-stroke trigger walks the stored word, or leaves it (R236). -/
theorem State.shortStrokeTrigger_eq (s : State) :
    s.shortStrokeTrigger = if s.cfg.op4OnStepsWrite = true ∧ s.cmd.opcode = 4 then s.shortStrokes else s := by
  simp only [State.shortStrokeTrigger, Bool.and_eq_true, decide_eq_true_eq]

theorem exec_strokeRow {dir : BitVec 3} {row : Bool → BitVec 4 → Instr} {step : Int × Int}
    (hrow : (dir, row, step) ∈ strokeRows) (draw : Bool) (len : BitVec 4) (s : State) :
    exec (row draw len) s = .next (s.stroke dir draw len) := by
  unfold strokeRows at hrow
  fin_cases hrow <;> rfl

/-- Settles O21: each way of writing the word leaves it whole in the register, then triggers. -/
theorem shortStrokeWriteWalksUnderOpcodeFour : Obligations.ShortStrokeWriteWalksUnderOpcodeFour := by
  refine ⟨fun p hp s draw len => exec_strokeRow hp draw len s, fun s b => rfl, fun w s => ?_⟩
  have htrigger := State.shortStrokeTrigger_eq (s.setShortStroke w)
  refine ⟨rfl, congrArg _ htrigger, fun hmap => ⟨?whole, ?again⟩⟩
  case whole =>
    refine congrArg _ ((State.wr_shortStroke hmap (lane := 0) (len := .b4) (by decide) _).trans ?_)
    rw [if_pos (by decide), Len.bytes, mergeLanes_whole]
    exact htrigger
  case again =>
    refine congrArg _
      ((State.wr_shortStroke (s := s.setShortStroke w) hmap (lane := 3) (len := .b1) (by decide) _).trans ?_)
    rw [if_pos (by decide), Len.bytes, State.setShortStroke_acc, mergeLanes_topByte]
    exact htrigger

end Sys2Proof.Machine
end

section
/-! Strokes (R236 to R241): the positions of a stroke, what each iteration does, and what a move-only stroke leaves. -/

-- Theorem bodies in sequence: many waiting at once would each hold a thread of the compile.
set_option Elab.async false

namespace Sys2Proof.Machine

/-- A map selector counts modulo 4 (R107). -/
theorem selectMap_eq (sel : BitVec 4) : selectMap sel = BitVec.ofNat 2 (sel.toNat % 4) := by
  refine BitVec.eq_of_toNat_eq ?_
  rw [selectMap, BitVec.toNat_setWidth, BitVec.toNat_ofNat, Nat.mod_mod]

/-- The mix of an iteration (R107, R202): the foreground without a pattern, else by the pattern pixel. -/
theorem State.fetchMix_eq (s : State) (f : CmdFields) (px py : Int) :
    s.fetchMix f px py =
      if f.patSel = 8 then (true, s)
      else
        (decide ((s.readPixel (selectMap f.patSel) px py).1 ≠ 0), (s.readPixel (selectMap f.patSel) px py).2) := by
  rw [State.fetchMix, patterned]
  by_cases hpat : f.patSel = 8
  · rw [if_pos hpat, decide_eq_false (not_not.2 hpat)]; rfl
  · rw [if_neg hpat, decide_eq_true hpat]; rfl

/-- The pixel of one position: the pattern read where a pattern is selected, then the pixel step (R202, R223, R236). -/
theorem State.walkPixel_eq (s : State) (f : CmdFields) :
    let pixel := s.readPixel (selectMap f.patSel) s.live.px s.live.py
    let ctx : Bool → StepCtx := fun mix =>
      { sx := s.live.sx, sy := s.live.sy, dx := s.live.dx, dy := s.live.dy, mix := mix
        firstCol := decide (s.live.x = 0), firstRow := decide (s.live.y = 0) }
    s.walkPixel f =
      if f.patSel = 8 then s.pixelStep f (ctx true) else pixel.2.pixelStep f (ctx (decide (pixel.1 ≠ 0))) := by
  dsimp only
  rw [State.walkPixel, State.fetchMix_eq]
  split <;> rfl

/-- An iteration is the pixel, where the draw gate is set, then the move. -/
theorem State.strokeIter_eq (p : StrokeParams) (s : State) :
    State.strokeIter p s =
      (if p.draw = false then s else s.walkPixel p.f).withLive (State.strokeIter p s).live := by
  unfold State.strokeIter
  cases p.draw <;> dsimp only <;> split <;> rfl

theorem State.strokeIter_live_last {p : StrokeParams} {s : State} (h : s.live.y = 0) :
    (State.strokeIter p s).live = { s.live with y := s.live.y - 1 } := by
  unfold State.strokeIter
  dsimp only
  rw [if_pos (by omega)]
  rfl

theorem State.strokeIter_live_move {p : StrokeParams} {s : State} (h : 0 < s.live.y) :
    (State.strokeIter p s).live =
      { s.live with dx := s.live.dx + p.ddx, dy := s.live.dy + p.ddy, x := s.live.x + 1, y := s.live.y - 1 } := by
  unfold State.strokeIter
  dsimp only
  rw [if_neg (by omega)]
  rfl

/-- The state of a stroke of `n + 1` positions after `k` iterations. -/
def State.strokeWalk (p : StrokeParams) (n : Nat) (s : State) (k : Nat) : State :=
  iter k (State.strokeIter p) (s.withLive (s.loadLive 0 n))

theorem State.strokeWalk_succ (p : StrokeParams) (n : Nat) (s : State) (k : Nat) :
    s.strokeWalk p n (k + 1) = State.strokeIter p (s.strokeWalk p n k) := iter_succ_last _ _ _

/-- The live coordinates at position `j` of a stroke (R237, R238). -/
def State.strokeLive (p : StrokeParams) (n : Nat) (s : State) (j : Nat) : Live :=
  { sx := sext13 s.acc.srcMapX, sy := sext13 s.acc.srcMapY, px := sext13 s.acc.patMapX, py := sext13 s.acc.patMapY,
    dx := sext13 s.acc.dstMapX + j * p.ddx, dy := sext13 s.acc.dstMapY + j * p.ddy, x := j, y := n - j }

theorem State.strokeWalk_live (p : StrokeParams) (n : Nat) (s : State) {j : Nat} (hj : j ≤ n) :
    (s.strokeWalk p n j).live = s.strokeLive p n j := by
  induction j with
  | zero => simp [State.strokeWalk, State.strokeLive, iter, State.loadLive]
  | succ j ih =>
    have hlive := ih (by omega)
    have hmore : 0 < (s.strokeWalk p n j).live.y := by
      rw [hlive]; show (0 : Int) < n - j; omega
    rw [State.strokeWalk_succ, State.strokeIter_live_move hmore, hlive]
    simp only [State.strokeLive, Nat.cast_add, Nat.cast_one, Live.mk.injEq, true_and]
    exact ⟨by ring, by ring, by ring⟩

/-- The last position is not left: the coordinates stay where they are (R240). -/
theorem State.strokeWalk_live_end (p : StrokeParams) (n : Nat) (s : State) :
    (s.strokeWalk p n (n + 1)).live = { s.strokeLive p n n with y := -1 } := by
  have hlive := s.strokeWalk_live p n (Nat.le_refl n)
  have hzero : (s.strokeLive p n n).y = 0 := Int.sub_self _
  rw [State.strokeWalk_succ, State.strokeIter_live_last (by rw [hlive, hzero]), hlive, hzero]
  rfl

/-- A move-only stroke changes the live coordinates alone. -/
theorem State.strokeWalk_of_not_draw {p : StrokeParams} (hdraw : p.draw = false) (n : Nat) (s : State) (k : Nat) :
    s.strokeWalk p n k = s.withLive (s.strokeWalk p n k).live := by
  induction k with
  | zero => rfl
  | succ k ih =>
    rw [State.strokeWalk_succ, State.strokeIter_eq, if_pos hdraw, ih]
    rfl

/-- What a stroke by a unit step fixes at its start (R236). -/
def State.strokeParams (s : State) (unit : Int × Int) (draw : Bool) : StrokeParams :=
  { f := s.cmd, ddx := unit.1, ddy := unit.2, draw := draw }

theorem State.stroke_eq (s : State) (dir : BitVec 3) (draw : Bool) (len : BitVec 4) :
    s.stroke dir draw len =
      (s.strokeWalk (s.strokeParams (strokeDirection dir) draw) len.toNat (len.toNat + 1)).writeBack := rfl

theorem strokeDirection_strokeRows : ∀ p ∈ strokeRows, strokeDirection p.1 = p.2.2 := by
  decide

/-- The pixel at position `j` of a stroke: its flags mark the first and the last position (R238). -/
theorem State.strokeWalk_pixel (p : StrokeParams) {n j : Nat} (hj : j ≤ n) (s : State) :
    let u := s.strokeWalk p n j
    let pixel := u.readPixel (selectMap p.f.patSel) (sext13 s.acc.patMapX) (sext13 s.acc.patMapY)
    let ctx : Bool → StepCtx := fun mix =>
      { sx := sext13 s.acc.srcMapX, sy := sext13 s.acc.srcMapY, dx := sext13 s.acc.dstMapX + j * p.ddx
        dy := sext13 s.acc.dstMapY + j * p.ddy, mix := mix, firstCol := decide (j = 0), firstRow := decide (j = n) }
    u.walkPixel p.f =
      if p.f.patSel = 8 then u.pixelStep p.f (ctx true) else pixel.2.pixelStep p.f (ctx (decide (pixel.1 ≠ 0))) := by
  have hlive := s.strokeWalk_live p n hj
  have hcol : decide ((s.strokeWalk p n j).live.x = 0) = decide (j = 0) := by
    rw [decide_eq_decide, hlive]; exact Int.natCast_eq_zero
  have hrow : decide ((s.strokeWalk p n j).live.y = 0) = decide (j = n) := by
    rw [decide_eq_decide, hlive]; show (n : Int) - j = 0 ↔ j = n; omega
  dsimp only
  rw [State.walkPixel_eq, hcol, hrow, hlive]
  rfl

/-- Settles O52: the coordinates by induction along the walk, each iteration as its pixel, the end by the frame. -/
theorem strokesMoveAlongTheirDirection : Obligations.StrokesMoveAlongTheirDirection := by
  intro p hp draw len s
  have hdir := strokeDirection_strokeRows p hp
  have hstroke : s.stroke p.1 draw len =
      (s.strokeWalk (s.strokeParams p.2.2 draw) len.toNat (len.toNat + 1)).writeBack := by
    rw [State.stroke_eq, hdir]
  have hend := s.strokeWalk_live_end (s.strokeParams p.2.2 draw) len.toNat
  refine ⟨hdir, fun j hj => ⟨s.strokeWalk_live (s.strokeParams p.2.2 draw) len.toNat hj, ?pixel⟩,
    s.stroke p.1 draw len, exec_strokeRow hp draw len s, hstroke, ?frame, ?endX, ?endY, ?moveOnly⟩
  case pixel =>
    have hiter := State.strokeIter_eq (s.strokeParams p.2.2 draw) (s.strokeWalk (s.strokeParams p.2.2 draw) len.toNat j)
    rw [State.strokeWalk_pixel _ hj, selectMap_eq, ← State.strokeWalk_succ] at hiter
    exact hiter
  case frame =>
    obtain ⟨hsame, -⟩ := State.drawsLaw_stroke s p.1 draw len
    exact hsame
  case endX => rw [hstroke, State.writeBack_acc, hend]; rfl
  case endY => rw [hstroke, State.writeBack_acc, hend]; rfl
  case moveOnly =>
    intro hdraw
    rw [hstroke, State.strokeWalk_of_not_draw (p := s.strokeParams p.2.2 draw) hdraw]
    exact ⟨rfl, rfl, rfl, rfl⟩

end Sys2Proof.Machine
end

section
/-! Rows that stand for one value of a field (R102 to R109, R117, R182 to R185, R202): what each answers (log 1), and
words written out from the encoding tables. -/

-- Theorem bodies in sequence: many waiting at once would each hold a thread of the compile.
set_option Elab.async false

namespace Sys2Proof.Machine

/-! ## Words of the encoding tables -/

/-- Settles O5: each word is decoded byte by byte. -/
theorem decodeReadsSpecWords : Obligations.DecodeReadsSpecWords :=
  ⟨rfl, rfl, rfl, rfl, rfl, rfl, rfl, rfl, rfl, rfl, rfl, rfl, rfl, rfl, rfl, rfl, rfl⟩

/-! ## Command fields -/

/-- A field of a word, as a number (R102). -/
theorem extractLsb'_eq_ofNat {w : Nat} (x : BitVec w) (p n : Nat) :
    x.extractLsb' p n = BitVec.ofNat n (x.toNat / 2 ^ p % 2 ^ n) := by
  refine BitVec.eq_of_toNat_eq ?_
  rw [BitVec.extractLsb'_toNat, BitVec.toNat_ofNat, Nat.mod_mod, Nat.shiftRight_eq_div_pow]

/-- The half-open rectangle of the clip (R183). -/
theorem State.inClip_eq (s : State) (dx dy : Int) :
    s.inClip dx dy = decide
      (sext13 s.acc.maskOriginX ≤ dx ∧
        dx < sext13 s.acc.maskOriginX + (s.acc.maps.m0.width.toNat + s.cfg.mapDimBias : Int) ∧
        sext13 s.acc.maskOriginY ≤ dy ∧
        dy < sext13 s.acc.maskOriginY + (s.acc.maps.m0.height.toNat + s.cfg.mapDimBias : Int)) := by
  rw [State.inClip, ← Bool.decide_and, decide_eq_decide, HostConfig.mapW, HostConfig.mapH, Nat.cast_add, Nat.cast_add,
    and_assoc]

theorem exec_clipRow {row : Word → Word → Instr} (hrow : row ∈ [Instr.clipOn1, Instr.clipOn2, Instr.clipOn3])
    (dx dy : Word) (s : State) : exec (row dx dy) s = .next (s.respond (.verdict (s.inClip dx.toInt dy.toInt))) := by
  fin_cases hrow <;> rfl

/-- Settles O39: the layout's positions, the octants and draw modes are read off; the clip is its rectangle. -/
theorem commandFieldRowsAnswer : Obligations.CommandFieldRowsAnswer := by
  refine ⟨fun l w => ?fields, rfl, fun l code rest => ⟨opcode_commandWord l code rest, commandWord_cmdLayout code rest⟩,
    fun s firstCol firstRow dx dy sel => ⟨rfl, rfl, rfl, rfl, rfl, ?clip, rfl, rfl, rfl, rfl, rfl, rfl, rfl, rfl, rfl,
      ?src, ?dst⟩⟩
  case fields => simp only [cmdFields, extractLsb'_eq_ofNat]
  case clip =>
    intro row hrow
    rw [exec_clipRow hrow, State.inClip_eq]
    rfl
  case src => rw [← selectMap_eq]; rfl
  case dst => rw [← selectMap_eq]; rfl

/-! ## Gate, source and pattern -/

/-- A test's row answers whether the test holds. -/
theorem respond_verdict {P : Prop} {b : Bool} (h : b = true ↔ P) (s : State) :
    (P → (Host.Outcome.next (s.respond (.verdict b)) : Host.Outcome State Fault Refusal) =
      .next { s with answer := .verdict true }) ∧
    (¬ P → (Host.Outcome.next (s.respond (.verdict b)) : Host.Outcome State Fault Refusal) =
      .next { s with answer := .verdict false }) := by
  refine ⟨fun hp => ?_, fun hp => ?_⟩
  · rw [h.2 hp]; rfl
  · rw [Bool.eq_false_iff.2 (mt h.1 hp)]; rfl

theorem exec_fgColorRow {row : BitVec 4 → Word → Word → Instr}
    (hrow : row ∈ [Instr.fgSrcColor0, Instr.fgSrcColor1, Instr.fgSrcColor3]) (sel : BitVec 4) (x y : Word) (s : State) :
    exec (row sel x y) s = .next (s.respond (.value s.acc.frgdColor)) := by
  fin_cases hrow <;> rfl

theorem exec_bgColorRow {row : BitVec 4 → Word → Word → Instr}
    (hrow : row ∈ [Instr.bgSrcColor0, Instr.bgSrcColor1, Instr.bgSrcColor3]) (sel : BitVec 4) (x y : Word) (s : State) :
    exec (row sel x y) s = .next (s.respond (.value s.acc.bkgdColor)) := by
  fin_cases hrow <;> rfl

/-- Settles O40: each comparison is its code's, each source its register or its pixel. -/
theorem gateSourceAndPatternRowsAnswer : Obligations.GateSourceAndPatternRowsAnswer := by
  intro s dest sel x y
  have hzero (v : Word) : decide (v ≠ 0) = decide (v.toNat ≠ 0) := by
    rw [decide_eq_decide, ne_eq, ne_eq, BitVec.toNat_eq]; rfl
  have hcc (c : BitVec 3) {P : Prop} (h : s.ccPass c dest = true ↔ P) := respond_verdict h s
  refine ⟨hcc 0 (by simp [State.ccPass]), hcc 1 decide_eq_true_iff, hcc 2 decide_eq_true_iff, hcc 3 decide_eq_true_iff,
    hcc 4 Iff.rfl, hcc 5 decide_eq_true_iff, hcc 6 decide_eq_true_iff, hcc 7 decide_eq_true_iff,
    fun row hrow => exec_fgColorRow hrow sel x y s, fun row hrow => exec_bgColorRow hrow sel x y s, ?fg, ?bg, ?pat⟩
  case fg => rw [← selectMap_eq]; rfl
  case bg => rw [← selectMap_eq]; rfl
  case pat => rw [← selectMap_eq, ← hzero]; rfl

/-! ## Mix codes -/

theorem exec_mixRow {code : BitVec 5} {row : Word → Word → Instr} (hrow : (code, row) ∈ mixRows) (d s : Word)
    (st : State) : exec (row d s) st = .next (st.respond (.value (ropOf code d s))) := by
  unfold mixRows at hrow
  fin_cases hrow <;> rfl

/-- The 32 rows are the 32 codes. -/
theorem exists_mixRow : ∀ code : BitVec 5, ∃ r ∈ mixRows, r.1 = code := by
  decide

theorem State.applyRop_eq (st : State) (foreground : Bool) (d s : Word) :
    st.applyRop foreground d s =
      ropOf (BitVec.ofNat 5 ((if foreground then st.acc.frgdMix else st.acc.bkgdMix).toNat % 32)) d s := by
  have hlow (b : Byte) : b.extractLsb' 0 5 = BitVec.ofNat 5 (b.toNat % 32) := by
    rw [extractLsb'_eq_ofNat, Nat.pow_zero, Nat.div_one]; rfl
  cases foreground <;> exact congrArg (ropOf · d s) (hlow _)

/-- Settles O41: row by row, and the code as the register's low bits. -/
theorem mixRowsAnswerTheirCode : Obligations.MixRowsAnswerTheirCode :=
  ⟨fun _ hr d s st => exec_mixRow hr d s st, exists_mixRow,
    fun st d s => ⟨st.applyRop_eq true d s, st.applyRop_eq false d s⟩⟩

end Sys2Proof.Machine
end

section
/-! The 16-bit display fields written byte by byte (R115, R343, R396). -/

-- Theorem bodies in sequence: many waiting at once would each hold a thread of the compile.
set_option Elab.async false

namespace Sys2Proof.Machine

theorem setWidth_setByteLane_low (h : Half) (v : Byte) :
    (setByteLane (h.setWidth 32) 0 v).setWidth 16 = withLowByte h v := by
  refine BitVec.eq_of_getLsbD_eq fun i hi => ?_
  rw [withLowByte, BitVec.getLsbD_setWidth, getLsbD_setByteLane _ _ _ (by omega), BitVec.getLsbD_append,
    BitVec.getLsbD_setWidth, BitVec.getLsbD_extractLsb']
  grind

theorem setWidth_setByteLane_high (h : Half) (v : Byte) :
    (setByteLane (h.setWidth 32) 1 v).setWidth 16 = withHighByte h v := by
  refine BitVec.eq_of_getLsbD_eq fun i hi => ?_
  rw [withHighByte, BitVec.getLsbD_setWidth, getLsbD_setByteLane _ _ _ (by omega), BitVec.getLsbD_append,
    BitVec.getLsbD_setWidth, BitVec.getLsbD_extractLsb']
  grind

theorem withHighByte_withLowByte (h v : Half) : withHighByte (withLowByte h (lowByte v)) (highByte v) = v := by
  refine BitVec.eq_of_getLsbD_eq fun i hi => ?_
  simp only [withHighByte, withLowByte, lowByte, highByte, BitVec.getLsbD_append, BitVec.getLsbD_extractLsb']
  grind

theorem withLowByte_withHighByte (h v : Half) : withLowByte (withHighByte h (highByte v)) (lowByte v) = v := by
  refine BitVec.eq_of_getLsbD_eq fun i hi => ?_
  simp only [withHighByte, withLowByte, lowByte, highByte, BitVec.getLsbD_append, BitVec.getLsbD_extractLsb']
  grind

/-- A field that is read back as it was set, the last value set. -/
structure IsField (get : CrtcRegs → Half) (set : CrtcRegs → Half → CrtcRegs) : Prop where
  get_set : ∀ c v, get (set c v) = v
  set_set : ∀ c v w, set (set c v) w = set c w

/-- The rows of a field's two bytes under the default map (R343, D22): the low byte is stored, the high byte is stored
and recalculates (D27). -/
structure SplitRows (low high : ByteAccess → Instr) (get : CrtcRegs → Half) (set : CrtcRegs → Half → CrtcRegs) :
    Prop extends IsField get set where
  exec_low : ∀ (v : Byte) (s : State), s.cfg.extRegMap = Config.extRegMap →
    exec (low (.write v)) s = .next (s.withCrtc (set s.ext.crtc (withLowByte (get s.ext.crtc) v)))
  exec_high : ∀ (v : Byte) (s : State), s.cfg.extRegMap = Config.extRegMap →
    exec (high (.write v)) s = .next (s.withCrtc (set s.ext.crtc (withHighByte (get s.ext.crtc) v))).recalc

/-- A write of a stored sub-register's byte, by its entry (R343). -/
theorem State.subWrite_of_entry {s : State} {i : Nat} {e : SubEntry} (hmap : s.cfg.extRegMap = Config.extRegMap)
    (hentry : subEntry Config.extRegMap i = some e) (v : Byte) :
    s.subWrite i v = if e.recalc then (s.subStore e.field e.lane v).recalc else s.subStore e.field e.lane v := by
  rw [State.subWrite, hmap, hentry]

theorem splitFields_rows : ∀ p ∈ splitFields, SplitRows p.1 p.2.1 p.2.2.1 p.2.2.2 := by
  intro p hp
  unfold splitFields at hp
  fin_cases hp
  all_goals
    refine ⟨⟨fun _ _ => rfl, fun _ _ _ => rfl⟩, fun v s hmap => ?_, fun v s hmap => ?_⟩
    · refine congrArg _ ((State.subWrite_of_entry hmap rfl v).trans ?_)
      rw [← setWidth_setByteLane_low]
      rfl
    · refine congrArg _ ((State.subWrite_of_entry hmap rfl v).trans ?_)
      rw [← setWidth_setByteLane_high]
      rfl

theorem State.execAll_two {s t u : State} {i j : Instr} (hi : exec i s = .next t) (hj : exec j t = .next u) :
    s.execAll [i, j] = .next u := by
  simp only [State.execAll, hi, hj]

@[simp] theorem State.withCrtc_crtc (s : State) (c : CrtcRegs) : (s.withCrtc c).ext.crtc = c := rfl

@[simp] theorem State.withCrtc_withCrtc (s : State) (c d : CrtcRegs) : (s.withCrtc c).withCrtc d = s.withCrtc d := rfl

/-- A store after a recalculation leaves the effective values as the recalculation saw them (R283). -/
theorem State.recalc_withCrtc (s : State) (c d : CrtcRegs) :
    (s.withCrtc c).recalc.withCrtc d = { (s.withCrtc d).recalc with eff := (s.withCrtc c).recalc.eff } := rfl

section
variable {low high : ByteAccess → Instr} {get : CrtcRegs → Half} {set : CrtcRegs → Half → CrtcRegs}
  (hrows : SplitRows low high get set) {s : State} (hmap : s.cfg.extRegMap = Config.extRegMap) (v : Half)
include hrows hmap

theorem SplitRows.exec_lowThenHigh :
    s.execAll [low (.write (lowByte v)), high (.write (highByte v))] =
      .next (s.withCrtc (set s.ext.crtc v)).recalc := by
  have hlow := hrows.exec_low (lowByte v) s hmap
  have hhigh := hrows.exec_high (highByte v)
    (s.withCrtc (set s.ext.crtc (withLowByte (get s.ext.crtc) (lowByte v)))) hmap
  rw [State.withCrtc_crtc, State.withCrtc_withCrtc, hrows.get_set, hrows.set_set, withHighByte_withLowByte] at hhigh
  exact State.execAll_two hlow hhigh

theorem SplitRows.exec_highThenLow :
    s.execAll [high (.write (highByte v)), low (.write (lowByte v))] =
      .next { (s.withCrtc (set s.ext.crtc v)).recalc with
        eff := (s.withCrtc (set s.ext.crtc (withHighByte (get s.ext.crtc) (highByte v)))).recalc.eff } := by
  have hhigh := hrows.exec_high (highByte v) s hmap
  have hlow := hrows.exec_low (lowByte v)
    (s.withCrtc (set s.ext.crtc (withHighByte (get s.ext.crtc) (highByte v)))).recalc hmap
  rw [State.recalc_ext, State.withCrtc_crtc, State.recalc_withCrtc, hrows.get_set, hrows.set_set,
    withLowByte_withHighByte] at hlow
  exact State.execAll_two hhigh hlow

end

/-- Settles O26: the second byte completes the value, and the high byte alone recalculates. -/
theorem splitTimingWritesRecalculateOnce : Obligations.SplitTimingWritesRecalculateOnce := by
  intro p hp v s hmap
  have hrows := splitFields_rows p hp
  exact ⟨hrows.exec_lowThenHigh hmap v, hrows.exec_highThenLow hmap v, hrows.get_set _ _⟩

end Sys2Proof.Machine
end

section
/-! What drawing reaches (R75, R76, R138, R180 to R188): a pixel step changes no byte but those of its own destination
pixel, inside the clip where the mask mode asks for it, and a primitive is a walk of pixel steps. -/

-- Theorem bodies in sequence: many waiting at once would each hold a thread of the compile.
set_option Elab.async false

namespace Sys2Proof.Machine

/-! ## Reads of pixels -/

/-- `t` differs from `s` at most in how often the oracle was asked (R77, log 14). -/
def State.sameButReads (s t : State) : Prop := t = { s with sysReads := t.sysReads }

theorem State.sameButReads_refl (s : State) : s.sameButReads s := rfl

theorem State.sameButReads_trans {s t u : State} (h : s.sameButReads t) (k : t.sameButReads u) : s.sameButReads u := by
  unfold State.sameButReads at *
  rw [k, h]

theorem State.sameButReads_accelRead (s : State) (a : Word) (n : Nat) : s.sameButReads (s.accelRead a n).2 := by
  unfold State.accelRead
  split <;> rfl

theorem State.sameButReads_readPixel (s : State) (m : BitVec 2) (x y : Int) : s.sameButReads (s.readPixel m x y).2 := by
  unfold State.readPixel
  cases hd : depthOf (s.mapDesc m).format with
  | one => rw [State.readPixelOf_one hd]; exact s.sameButReads_accelRead _ 1
  | eight => rw [State.readPixelOf_eight hd]; exact s.sameButReads_accelRead _ 1
  | sixteen => rw [State.readPixelOf_sixteen hd]; exact s.sameButReads_accelRead _ 2
  | reserved => rw [State.readPixelOf_reserved hd]; exact s.sameButReads_refl

theorem State.sameButReads_fetchSource (s : State) (f : CmdFields) (mix : Bool) (x y : Int) :
    s.sameButReads (s.fetchSource f mix x y).2 := by
  unfold State.fetchSource State.fgSource State.bgSource
  split <;> split
  · exact s.sameButReads_readPixel _ x y
  · exact s.sameButReads_refl
  · exact s.sameButReads_readPixel _ x y
  · exact s.sameButReads_refl

theorem State.sameButReads_fetchMix (s : State) (f : CmdFields) (x y : Int) : s.sameButReads (s.fetchMix f x y).2 := by
  rw [State.fetchMix_eq]
  split
  · exact s.sameButReads_refl
  · exact s.sameButReads_readPixel _ x y

theorem State.sameButReads.vramAt {s t : State} (h : s.sameButReads t) (b : Nat) : t.vramAt b = s.vramAt b := by
  rw [h]
  rfl

theorem State.sameButReads.sameButDrawing {s t : State} (h : s.sameButReads t) : s.sameButDrawing t := by
  unfold State.sameButDrawing
  rw [h]

/-! ## What the frame of drawing fixes of a pixel -/

section
variable {s t : State} (h : s.sameButDrawing t)
include h

theorem State.sameButDrawing.mapDesc (m : BitVec 2) : t.mapDesc m = s.mapDesc m := by
  rw [State.mapDesc, State.sameButDrawing_acc h]
  rfl

theorem State.sameButDrawing.cmd : t.cmd = s.cmd := by
  rw [State.cmd, State.sameButDrawing_cfg h, State.sameButDrawing_acc h]
  rfl

theorem State.sameButDrawing.inClip (x y : Int) : t.inClip x y = s.inClip x y := by
  rw [State.inClip, State.sameButDrawing_cfg h, State.sameButDrawing_acc h]
  rfl

theorem State.sameButDrawing.pixelByte (d : MapDesc) (x y : Int) (b : Nat) :
    t.pixelByte d x y b ↔ s.pixelByte d x y b := by
  unfold State.pixelByte State.inWindow
  rw [State.sameButDrawing_cfg h]

end

/-! ## The bytes that a pixel step reaches -/

/-- Byte `b` is one of the destination pixel at `(x, y)`, and the clip lets that pixel through (R138, R183). -/
def State.reachesByte (s : State) (f : CmdFields) (x y : Int) (b : Nat) : Prop :=
  s.pixelByte (s.mapDesc (selectMap f.dstSel)) x y b ∧ (f.maskMode ≠ 0 → s.inClip x y = true)

theorem State.sameButDrawing.reachesByte {s t : State} (h : s.sameButDrawing t) (f : CmdFields) (x y : Int) (b : Nat) :
    t.reachesByte f x y b ↔ s.reachesByte f x y b := by
  rw [State.reachesByte, State.reachesByte, h.mapDesc, h.pixelByte, h.inClip]

/-- From `s` to `t` no byte of video memory changes but those of destination pixels at the positions visited. -/
def State.paintsOnly (s t : State) (f : CmdFields) (visited : Int → Int → Prop) : Prop :=
  ∀ b, t.vramAt b ≠ s.vramAt b → ∃ x y : Int, visited x y ∧ s.reachesByte f x y b

section
variable {s t u : State} {f : CmdFields} {visited visited' : Int → Int → Prop}

theorem State.paintsOnly_of_vramAt (h : ∀ b, t.vramAt b = s.vramAt b) : s.paintsOnly t f visited :=
  fun b hne => absurd (h b) hne

theorem State.paintsOnly.mono (h : s.paintsOnly t f visited) (hsub : ∀ x y, visited x y → visited' x y) :
    s.paintsOnly t f visited' := by
  intro b hne
  obtain ⟨x, y, hvisit, hreach⟩ := h b hne
  exact ⟨x, y, hsub x y hvisit, hreach⟩

theorem State.paintsOnly_trans (hframe : s.sameButDrawing t) (h : s.paintsOnly t f visited)
    (k : t.paintsOnly u f visited) : s.paintsOnly u f visited := by
  intro b hne
  by_cases hlater : u.vramAt b = t.vramAt b
  · exact h b (hlater ▸ hne)
  · obtain ⟨x, y, hvisit, hreach⟩ := k b hlater
    exact ⟨x, y, hvisit, (hframe.reachesByte f x y b).1 hreach⟩

end

/-- A pixel step only reads, or it passes the clip and writes its destination pixel after its reads (R188). -/
theorem State.pixelStep_cases (s : State) (f : CmdFields) (c : StepCtx) :
    s.sameButReads (s.pixelStep f c) ∨
      s.clipPass f.maskMode c.dx c.dy = true ∧
        ∃ u v, s.sameButReads u ∧ s.pixelStep f c = u.writePixel (selectMap f.dstSel) c.dx c.dy v := by
  have hdest := s.sameButReads_readPixel (selectMap f.dstSel) c.dx c.dy
  unfold State.pixelStep
  split
  · exact .inl s.sameButReads_refl
  · split
    · exact .inl s.sameButReads_refl
    · next hclip =>
      dsimp only
      split
      · exact .inl hdest
      · exact .inr ⟨Bool.eq_true_of_not_eq_false hclip, _, _,
          State.sameButReads_trans hdest (State.sameButReads_fetchSource _ f c.mix c.sx c.sy), rfl⟩

theorem State.paintsOnly_pixelStep (s : State) (f : CmdFields) (c : StepCtx) :
    s.paintsOnly (s.pixelStep f c) f (fun x y => x = c.dx ∧ y = c.dy) := by
  rcases s.pixelStep_cases f c with hreads | ⟨hclip, u, v, hreads, hstep⟩
  · exact State.paintsOnly_of_vramAt hreads.vramAt
  · intro b hne
    rw [hstep, ← hreads.vramAt] at hne
    have hpixel : u.pixelByte (u.mapDesc (selectMap f.dstSel)) c.dx c.dy b :=
      not_not.1 fun hnot => hne ((u.writePixelOf_effect _ c.dx c.dy v).vramAt_other hnot)
    rw [hreads.sameButDrawing.mapDesc, hreads.sameButDrawing.pixelByte] at hpixel
    refine ⟨c.dx, c.dy, ⟨rfl, rfl⟩, hpixel, fun hmask => ?_⟩
    rwa [State.clipPass, if_neg hmask] at hclip

/-- One iteration reads the pattern, makes its pixel step, and advances (R201, R221, R236). -/
theorem State.paintsOnly_iteration (s : State) (f : CmdFields) (px py : Int) (c : StepCtx) (l : Live) :
    s.paintsOnly (((s.fetchMix f px py).2.pixelStep f c).withLive l) f (fun x y => x = c.dx ∧ y = c.dy) := by
  have hmix := s.sameButReads_fetchMix f px py
  exact State.paintsOnly_trans hmix.sameButDrawing (State.paintsOnly_of_vramAt hmix.vramAt)
    ((s.fetchMix f px py).2.paintsOnly_pixelStep f c)

/-! ## Walks of drawing steps -/

section
variable {walk : Nat → State} (hdraw : ∀ k, (walk k).drawsLaw (walk (k + 1)))
include hdraw

theorem State.sameButDrawing_walk (n : Nat) : (walk 0).sameButDrawing (walk n) := by
  induction n with
  | zero => rfl
  | succ n ih =>
    obtain ⟨hframe, -⟩ := hdraw n
    exact State.sameButDrawing_trans ih hframe

theorem State.paintsOnly_walk {f : CmdFields} {visited : Int → Int → Prop} {n : Nat}
    (hpaint : ∀ k < n, (walk k).paintsOnly (walk (k + 1)) f visited) : (walk 0).paintsOnly (walk n) f visited := by
  induction n with
  | zero => exact State.paintsOnly_of_vramAt fun _ => rfl
  | succ n ih =>
    exact State.paintsOnly_trans (State.sameButDrawing_walk hdraw n) (ih fun k hk => hpaint k (hk.trans n.lt_succ_self))
      (hpaint n n.lt_succ_self)

end

/-! ## The walk of a BitBLT (R200, R201) -/

/-- The destination of a BitBLT stands at a column and a row of its rectangle, counted from the corner where it starts. -/
structure Live.AtBlit (l : Live) (p : BlitParams) (y0 : Int) (col row : Nat) : Prop where
  dx : l.dx = p.dx0 + p.xdir * col
  dy : l.dy = y0 + p.ydir * row
  left : l.x = p.w - col

section
variable {l : Live} {p : BlitParams} {y0 : Int} {col row : Nat}

theorem Live.AtBlit.nextColumn (h : l.AtBlit p y0 col row) (hcol : col < p.w) :
    (blitAdvance p l).AtBlit p y0 (col + 1) row := by
  have hleft := h.left
  rw [blitAdvance, if_neg (by omega)]
  exact ⟨by rw [h.dx]; push_cast; ring, h.dy, by rw [hleft]; push_cast; ring⟩

theorem Live.AtBlit.nextRow (h : l.AtBlit p y0 p.w row) : (blitAdvance p l).AtBlit p y0 0 (row + 1) := by
  have hleft := h.left
  rw [blitAdvance, if_pos (by omega)]
  exact ⟨by simp, by rw [h.dy]; push_cast; ring, by simp⟩

end

/-- The state of a BitBLT after `k` iterations. -/
def State.blitWalk (s : State) (k : Nat) : State :=
  iter k (State.blitIter s.blitParams) (s.withLive (s.blitStart s.blitParams))

theorem State.blitWalk_succ (s : State) (k : Nat) :
    s.blitWalk (k + 1) = State.blitIter s.blitParams (s.blitWalk k) := iter_succ_last _ _ _

theorem State.drawsLaw_blitWalk (s : State) (k : Nat) : (s.blitWalk k).drawsLaw (s.blitWalk (k + 1)) := by
  rw [State.blitWalk_succ]
  exact State.drawsLaw_blitIter _ _

/-- Iteration `k` stands at column `k` modulo the row's length, in the row that its quotient counts. -/
theorem State.blitWalk_at (s : State) (k : Nat) :
    (s.blitWalk k).live.AtBlit s.blitParams (sext13 s.acc.dstMapY) (k % (s.acc.bltWidth.toNat + 1))
      (k / (s.acc.bltWidth.toNat + 1)) := by
  induction k with
  | zero => constructor <;> simp [State.blitWalk, iter, State.blitStart]
  | succ k ih =>
    rw [State.blitWalk_succ]
    rcases Nat.lt_or_ge (k % (s.acc.bltWidth.toNat + 1)) s.acc.bltWidth.toNat with hcol | hcol
    · obtain ⟨hrow, hnext⟩ := (Nat.div_mod_unique (s.acc.bltWidth.toNat.succ_pos)).2
        ⟨(Nat.add_right_comm _ 1 _).trans (congrArg (· + 1) (Nat.mod_add_div k _)), Nat.succ_lt_succ hcol⟩
      rw [hrow, hnext]
      exact ih.nextColumn hcol
    · have hlast : k % (s.acc.bltWidth.toNat + 1) = s.acc.bltWidth.toNat :=
        Nat.le_antisymm (Nat.le_of_lt_succ (Nat.mod_lt k (Nat.succ_pos _))) hcol
      have hdvd : s.acc.bltWidth.toNat + 1 ∣ k + 1 := Nat.dvd_of_mod_eq_zero (by rw [Nat.add_mod, hlast]; simp)
      rw [hlast] at ih
      rw [Nat.succ_div_of_dvd hdvd, Nat.mod_eq_zero_of_dvd hdvd]
      exact ih.nextRow

/-- The positions of a BitBLT's rectangle (R104, R200). -/
def State.blitVisits (s : State) (x y : Int) : Prop :=
  ∃ col row : Nat, col ≤ s.acc.bltWidth.toNat ∧ row ≤ s.acc.bltHeight.toNat ∧
    x = sext13 s.acc.dstMapX + octantXdir s.cmd.octant * col ∧ y = sext13 s.acc.dstMapY + octantYdir s.cmd.octant * row

theorem State.blitVisits_blitWalk (s : State) {k : Nat}
    (hk : k < (s.acc.bltWidth.toNat + 1) * (s.acc.bltHeight.toNat + 1)) :
    s.blitVisits (s.blitWalk k).live.dx (s.blitWalk k).live.dy :=
  ⟨_, _, Nat.le_of_lt_succ (Nat.mod_lt k (Nat.succ_pos _)), Nat.le_of_lt_succ (Nat.div_lt_of_lt_mul hk),
    (s.blitWalk_at k).dx, (s.blitWalk_at k).dy⟩

/-- A BitBLT is its walk: the live state loaded before it and the write-back after it leave video memory alone. -/
theorem State.paintsOnly_bitBlt (s : State) : s.paintsOnly s.bitBlt s.cmd s.blitVisits := by
  refine State.paintsOnly_walk (walk := s.blitWalk) s.drawsLaw_blitWalk fun k hk => ?_
  rw [State.blitWalk_succ]
  refine ((s.blitWalk k).paintsOnly_iteration s.cmd _ _ _ _).mono ?_
  rintro x y ⟨rfl, rfl⟩
  exact s.blitVisits_blitWalk hk

/-! ## The walk of a line (R220 to R225) -/

/-- The error term and the state of a line after `k` iterations. -/
def State.lineWalk (s : State) (k : Nat) : Int × State :=
  iter k (lineIter s.lineParams) (sext14 s.acc.bresErrTerm, s.withLive (s.loadLive 0 s.acc.bltWidth.toNat))

theorem State.lineWalk_succ (s : State) (k : Nat) : s.lineWalk (k + 1) = lineIter s.lineParams (s.lineWalk k) :=
  iter_succ_last _ _ _

theorem lineIter_snd (p : LineParams) (es : Int × State) :
    (lineIter p es).2 = (es.2.walkPixel p.f).withLive (lineIter p es).2.live := by
  unfold lineIter
  dsimp only
  split <;> rfl

theorem lineIter_move {p : LineParams} {es : Int × State} (h : 0 < es.2.live.y) :
    (lineIter p es).1 = lineErr p es.1 ∧ (lineIter p es).2.live = lineMove p es.1 es.2.live := by
  unfold lineIter
  dsimp only
  rw [if_neg (by omega)]
  exact ⟨rfl, rfl⟩

theorem lineMinorSteps_succ (p : LineParams) (err : Int) (n : Nat) :
    lineMinorSteps p err (n + 1) = lineMinorSteps p err n + if lineErrAt p err n < 0 then 0 else 1 := by
  unfold lineMinorSteps
  rw [List.range_succ, List.filter_append, List.length_append]
  by_cases hneg : lineErrAt p err n < 0
  · simp [hneg]
  · simp [hneg, Int.not_lt.1 hneg]

/-- The units that a line has moved along an axis before position `k`. -/
def lineSteps (p : LineParams) (err : Int) (major : Bool) (k : Nat) : Nat := if major then k else lineMinorSteps p err k

/-- A line stands at position `k`: its error term, its destination, and how many moves are left (R222, R225). -/
structure State.AtLine (s : State) (p : LineParams) (err : Int) (k : Nat) (es : Int × State) : Prop where
  term : es.1 = lineErrAt p err k
  dx : es.2.live.dx = sext13 s.acc.dstMapX + p.xdir * lineSteps p err (!p.ymajor) k
  dy : es.2.live.dy = sext13 s.acc.dstMapY + p.ydir * lineSteps p err p.ymajor k
  left : es.2.live.y = s.acc.bltWidth.toNat - k

theorem lineSteps_not (p : LineParams) (err : Int) (minor : Bool) (k : Nat) :
    lineSteps p err (!minor) k = if minor then lineMinorSteps p err k else k := by
  cases minor <;> rfl

theorem lineSteps_zero (p : LineParams) (err : Int) (major : Bool) : lineSteps p err major 0 = 0 := by
  cases major <;> rfl

/-- The move along an axis: always on the major one, on the minor one where the error term is not negative (R222). -/
theorem lineSteps_succ (p : LineParams) (err : Int) (major : Bool) (k : Nat) (c0 dir : Int) :
    c0 + dir * lineSteps p err major (k + 1) =
      if major = false ∧ lineErrAt p err k < 0 then c0 + dir * lineSteps p err major k
      else c0 + dir * lineSteps p err major k + dir := by
  unfold lineSteps
  cases major
  · rw [if_neg Bool.false_ne_true, if_neg Bool.false_ne_true, lineMinorSteps_succ]
    by_cases hneg : lineErrAt p err k < 0
    · simp [hneg]
    · simp [hneg]; ring
  · simp; ring

theorem State.AtLine.next {s : State} {p : LineParams} {err : Int} {k : Nat} {es : Int × State}
    (h : s.AtLine p err k es) (hk : k < s.acc.bltWidth.toNat) : s.AtLine p err (k + 1) (lineIter p es) := by
  have hleft := h.left
  obtain ⟨hterm, hlive⟩ := lineIter_move (p := p) (es := es) (by omega)
  refine ⟨by rw [hterm, h.term]; rfl, ?dx, ?dy, by rw [hlive]; simp only [lineMove, hleft]; push_cast; ring⟩
  case dx =>
    rw [hlive, lineSteps_succ, ← h.dx, ← h.term]
    cases hmajor : p.ymajor <;> simp [lineMove, hmajor]
  case dy =>
    rw [hlive, lineSteps_succ, ← h.dy, ← h.term]
    cases hmajor : p.ymajor <;> simp [lineMove, hmajor]

theorem State.lineWalk_at (s : State) {k : Nat} (hk : k ≤ s.acc.bltWidth.toNat) :
    s.AtLine s.lineParams (sext14 s.acc.bresErrTerm) k (s.lineWalk k) := by
  induction k with
  | zero => constructor <;> simp [lineErrAt, lineSteps_zero, State.lineWalk, iter, State.loadLive]
  | succ k ih =>
    rw [State.lineWalk_succ]
    exact (ih (by omega)).next hk

/-- The positions of a line's walk (R220, R222). -/
def State.lineVisits (s : State) (x y : Int) : Prop :=
  ∃ k : Nat, k ≤ s.acc.bltWidth.toNat ∧
    x = sext13 s.acc.dstMapX +
      s.lineParams.xdir * lineSteps s.lineParams (sext14 s.acc.bresErrTerm) (!s.lineParams.ymajor) k ∧
    y = sext13 s.acc.dstMapY +
      s.lineParams.ydir * lineSteps s.lineParams (sext14 s.acc.bresErrTerm) s.lineParams.ymajor k

theorem State.paintsOnly_lineDraw (s : State) : s.paintsOnly s.lineDraw s.cmd s.lineVisits := by
  refine State.paintsOnly_walk (walk := fun k => (s.lineWalk k).2)
    (fun k => by rw [State.lineWalk_succ]; exact lineIter_draws _ _) fun k hk => ?_
  have hat := s.lineWalk_at (Nat.le_of_lt_succ hk)
  rw [State.lineWalk_succ, lineIter_snd]
  refine ((s.lineWalk k).2.paintsOnly_iteration s.cmd _ _ _ _).mono ?_
  rintro x y ⟨rfl, rfl⟩
  exact ⟨k, Nat.le_of_lt_succ hk, hat.dx, hat.dy⟩

/-! ## The walks of strokes (R236 to R239) -/

/-- The positions of a stroke, if it draws (R237, R238). -/
def State.strokeVisits (s : State) (dir : BitVec 3) (draw : Bool) (len : BitVec 4) (x y : Int) : Prop :=
  draw = true ∧ ∃ j : Nat, j ≤ len.toNat ∧ x = sext13 s.acc.dstMapX + j * (strokeDirection dir).1 ∧
    y = sext13 s.acc.dstMapY + j * (strokeDirection dir).2

theorem State.paintsOnly_stroke (s : State) (dir : BitVec 3) (draw : Bool) (len : BitVec 4) :
    s.paintsOnly (s.stroke dir draw len) s.cmd (s.strokeVisits dir draw len) := by
  refine State.paintsOnly_walk (walk := s.strokeWalk (s.strokeParams (strokeDirection dir) draw) len.toNat)
    (fun k => by rw [State.strokeWalk_succ]; exact State.drawsLaw_strokeIter _ _) fun k hk => ?_
  have hlive := s.strokeWalk_live (s.strokeParams (strokeDirection dir) draw) len.toNat (Nat.le_of_lt_succ hk)
  rw [State.strokeWalk_succ, State.strokeIter_eq]
  cases draw with
  | false => exact State.paintsOnly_of_vramAt fun _ => rfl
  | true =>
    refine (State.paintsOnly_iteration _ s.cmd _ _ _ _).mono ?_
    rintro x y ⟨rfl, rfl⟩
    refine ⟨rfl, k, Nat.le_of_lt_succ hk, ?_, ?_⟩
    · exact congrArg Live.dx hlive
    · exact congrArg Live.dy hlive

/-- The state of a short-stroke word after its first `k` bytes (R239). -/
def State.shortStrokeWalk (s : State) (k : Nat) : State :=
  ((List.range k).map (byteLane s.acc.shortStroke)).foldl State.strokeByte s

theorem State.shortStrokeWalk_succ (s : State) (k : Nat) :
    s.shortStrokeWalk (k + 1) = (s.shortStrokeWalk k).strokeByte (byteLane s.acc.shortStroke k) := by
  rw [State.shortStrokeWalk, List.range_succ, List.map_append, List.foldl_append]
  rfl

theorem State.drawsLaw_shortStrokeWalk (s : State) (k : Nat) :
    (s.shortStrokeWalk k).drawsLaw (s.shortStrokeWalk (k + 1)) := by
  rw [State.shortStrokeWalk_succ]
  exact State.drawsLaw_strokeByte _ _

/-- The positions of the strokes of a short-stroke word, each from where the one before it ended (R239). -/
def State.shortStrokeVisits (s : State) (x y : Int) : Prop :=
  ∃ i < 4, (s.shortStrokeWalk i).strokeVisits ((byteLane s.acc.shortStroke i).extractLsb' 5 3)
    ((byteLane s.acc.shortStroke i).getLsbD 4) ((byteLane s.acc.shortStroke i).extractLsb' 0 4) x y

theorem State.paintsOnly_shortStrokes (s : State) : s.paintsOnly s.shortStrokes s.cmd s.shortStrokeVisits := by
  refine State.paintsOnly_walk (walk := s.shortStrokeWalk) (n := 4) s.drawsLaw_shortStrokeWalk fun k hk => ?_
  have hframe : s.sameButDrawing (s.shortStrokeWalk k) := State.sameButDrawing_walk s.drawsLaw_shortStrokeWalk k
  rw [State.shortStrokeWalk_succ, ← hframe.cmd]
  exact (State.paintsOnly_stroke _ _ _ _).mono fun x y hvisit => ⟨k, hk, hvisit⟩

/-- Settles O54: each primitive is a walk of pixel steps, and each step keeps to its own pixel. -/
theorem primitivesWriteOnlyClippedPixels : Obligations.PrimitivesWriteOnlyClippedPixels := by
  intro s _
  dsimp only
  rw [← selectMap_eq]
  refine ⟨s.paintsOnly_bitBlt, s.paintsOnly_lineDraw.mono ?line, s.paintsOnly_stroke, s.paintsOnly_shortStrokes⟩
  rintro x y ⟨k, hk, hx, hy⟩
  rw [lineSteps_not] at hx
  exact ⟨k, hk, hx, hy⟩

end Sys2Proof.Machine
end

section
/-! A rectangle filled with the foreground colour (R136, R154, R200, R201): each pixel step stores the colour's low byte,
and what one step has stored no later one undoes. -/

-- Theorem bodies in sequence: many waiting at once would each hold a thread of the compile.
set_option Elab.async false

namespace Sys2Proof.Machine

/-- The command and the registers of a solid fill: no pattern, clip or gate, mix `SRC` of the foreground colour, a plane
mask that passes the low byte, an 8-bit destination. -/
structure State.SolidFill (s : State) (f : CmdFields) : Prop where
  noPattern : f.patSel = 8
  colour : f.fgSrc ≠ 2
  noClip : f.maskMode = 0
  everyPixel : f.drawMode = 0 ∨ f.drawMode = 3
  noGate : s.acc.ccCond = 0
  mix : s.acc.frgdMix.toNat % 32 = 3
  planes : s.acc.planeMask.toNat % 256 = 255
  depth : depthOf (s.mapDesc (selectMap f.dstSel)).format = .eight

theorem State.SolidFill.of_sameButDrawing {s t : State} {f : CmdFields} (h : s.SolidFill f)
    (hframe : s.sameButDrawing t) : t.SolidFill f := by
  have hacc := State.sameButDrawing_acc hframe
  exact ⟨h.noPattern, h.colour, h.noClip, h.everyPixel, by rw [hacc]; exact h.noGate, by rw [hacc]; exact h.mix,
    by rw [hacc]; exact h.planes, by rw [hframe.mapDesc]; exact h.depth⟩

/-- A plane mask that passes the low byte passes the result's low byte whole (R176). -/
theorem byteLane_planeMerge {pm : Word} (hpm : pm.toNat % 256 = 255) (old new : Word) :
    byteLane (planeMerge pm old new) 0 = new.setWidth 8 := by
  refine BitVec.eq_of_getLsbD_eq fun i hi => ?_
  have hbit : (pm.toNat % 2 ^ 8).testBit i = (2 ^ 8 - 1).testBit i := congrArg (Nat.testBit · i) hpm
  rw [Nat.testBit_mod_two_pow, Nat.testBit_two_pow_sub_one, decide_eq_true hi, Bool.true_and,
    BitVec.testBit_toNat] at hbit
  rw [getLsbD_byteLane _ 0 i hi, Nat.mul_zero, Nat.zero_add, planeMerge, BitVec.getLsbD_setWidth]
  simp [hbit, hi]

/-! ## 8-bit pixels in the window -/

section
variable {s : State} {d : MapDesc} {x y : Int} {b : Nat}

theorem State.pixelByte_eight (hd : depthOf d.format = .eight) :
    s.pixelByte d x y b ↔
      b < HostConfig.vramSize s.cfg ∧ b < 0x100000 ∧ (addr8 s.cfg d x y).toNat = HostConfig.windowBase s.cfg + b := by
  have hat := pixelAt_eight s x y hd
  constructor
  · rintro ⟨a, n, hat', hin, hsize, hhi, hlo⟩
    rw [hat] at hat'
    cases hat'
    have hwindow := (s.inWindow_iff _).1 hin
    omega
  · rintro ⟨hsize, hb, haddr⟩
    exact ⟨_, 1, hat, (s.inWindow_iff _).2 (by omega), hsize, by omega, by omega⟩

/-- The byte of an 8-bit pixel after a write of the pixel (R136). -/
theorem State.vramAt_writePixelOf_eight (hd : depthOf d.format = .eight) (hb : s.pixelByte d x y b) (v : Word) :
    (s.writePixelOf d x y v).vramAt b = byteLane v 0 := by
  obtain ⟨hsize, hb20, haddr⟩ := (State.pixelByte_eight hd).1 hb
  have hin : s.inWindow (addr8 s.cfg d x y) = true := (s.inWindow_iff _).2 (by omega)
  rw [State.writePixelOf_eight hd, State.accelWrite_of_inWindow hin, haddr, Nat.add_sub_cancel_left,
    State.vramAt_vramWrite, length_bytesOf, if_pos ⟨Nat.le_refl b, Nat.lt_succ_self b, hsize⟩, Nat.sub_self, getD_bytesOf,
    if_pos Nat.one_pos]

end

/-! ## One pixel step -/

section
variable {s : State} {f : CmdFields} (h : s.SolidFill f)
include h

theorem State.SolidFill.fetchMix (px py : Int) : s.fetchMix f px py = (true, s) := by
  rw [State.fetchMix_eq, if_pos h.noPattern]

theorem State.SolidFill.drawModeAdmits (firstCol firstRow : Bool) :
    drawModeAdmits f.drawMode firstCol firstRow = true := by
  rcases h.everyPixel with hmode | hmode <;> rw [hmode] <;> rfl

theorem State.SolidFill.applyRop (dest src : Word) : s.applyRop true dest src = src := by
  rw [State.applyRop_eq, if_pos rfl, h.mix]
  rfl

/-- The merged colour is written, whatever the destination held (R185 to R187). -/
theorem State.SolidFill.combine {c : StepCtx} (hmix : c.mix = true) (dest : Word) :
    s.combine f c dest =
      s.writePixel (selectMap f.dstSel) c.dx c.dy (planeMerge s.acc.planeMask dest s.acc.frgdColor) := by
  have hsource : s.fetchSource f true c.sx c.sy = (s.acc.frgdColor, s) := if_neg h.colour
  rw [State.combine, hmix, hsource, h.applyRop]

/-- No stage stops a pixel step of a solid fill: it reads its destination and writes the merged colour (R188). -/
theorem State.SolidFill.pixelStep (c : StepCtx) :
    s.pixelStep f c =
      (s.readPixel (selectMap f.dstSel) c.dx c.dy).2.combine f c (s.readPixel (selectMap f.dstSel) c.dx c.dy).1 := by
  have hgate (u : State) (dest : Word) : u.ccPass s.acc.ccCond dest = true := by rw [h.noGate]; rfl
  have hclip : s.clipPass f.maskMode c.dx c.dy = true := if_pos h.noClip
  rw [State.pixelStep, h.drawModeAdmits, hclip, if_neg Bool.true_eq_false.mp, if_neg Bool.true_eq_false.mp]
  dsimp only
  rw [hgate, if_neg Bool.true_eq_false.mp]

/-- A byte of the step's pixel holds the colour's low byte after the step (R136, R188). -/
theorem State.SolidFill.vramAt_pixelStep {c : StepCtx} (hmix : c.mix = true) {b : Nat}
    (hb : s.pixelByte (s.mapDesc (selectMap f.dstSel)) c.dx c.dy b) :
    (s.pixelStep f c).vramAt b = s.acc.frgdColor.setWidth 8 := by
  have hreads := s.sameButReads_readPixel (selectMap f.dstSel) c.dx c.dy
  have hframe := hreads.sameButDrawing
  have hfill := h.of_sameButDrawing hframe
  rw [← hframe.mapDesc, ← hframe.pixelByte] at hb
  rw [h.pixelStep, hfill.combine hmix, State.writePixel, State.vramAt_writePixelOf_eight hfill.depth hb,
    byteLane_planeMerge hfill.planes, State.sameButDrawing_acc hframe]

/-- An iteration colours its pixel's byte and keeps every other. -/
theorem State.SolidFill.vramAt_blitIter {p : BlitParams} (hp : p.f = f) (b : Nat) :
    let reached := s.pixelByte (s.mapDesc (selectMap f.dstSel)) s.live.dx s.live.dy b
    (reached → (State.blitIter p s).vramAt b = s.acc.frgdColor.setWidth 8) ∧
      (¬ reached → (State.blitIter p s).vramAt b = s.vramAt b) := by
  subst hp
  refine ⟨fun hb => ?_, fun hb => ?_⟩
  · rw [State.blitIter, State.blitPixel, h.fetchMix]
    exact h.vramAt_pixelStep rfl hb
  · by_contra hne
    obtain ⟨x, y, ⟨rfl, rfl⟩, hreach, -⟩ := s.paintsOnly_iteration p.f _ _ _ _ b hne
    exact hb hreach

end

/-! ## The whole rectangle -/

/-- Every position of the rectangle is visited by an iteration. -/
theorem State.blitVisits.exists_blitWalk {s : State} {x y : Int} (h : s.blitVisits x y) :
    ∃ k < (s.acc.bltWidth.toNat + 1) * (s.acc.bltHeight.toNat + 1),
      (s.blitWalk k).live.dx = x ∧ (s.blitWalk k).live.dy = y := by
  obtain ⟨col, row, hcol, hrow, rfl, rfl⟩ := h
  have hat := s.blitWalk_at ((s.acc.bltWidth.toNat + 1) * row + col)
  rw [Nat.mul_add_mod, Nat.mul_add_div (Nat.succ_pos _), Nat.mod_eq_of_lt (Nat.lt_succ_of_le hcol),
    Nat.div_eq_of_lt (Nat.lt_succ_of_le hcol)] at hat
  refine ⟨_, ?_, hat.dx, hat.dy⟩
  calc (s.acc.bltWidth.toNat + 1) * row + col < (s.acc.bltWidth.toNat + 1) * (row + 1) := by
        rw [Nat.mul_succ]; omega
    _ ≤ (s.acc.bltWidth.toNat + 1) * (s.acc.bltHeight.toNat + 1) := Nat.mul_le_mul_left _ (Nat.succ_le_succ hrow)

/-- Once an iteration has coloured a byte, later ones colour it again or keep it. -/
theorem State.SolidFill.vramAt_blitWalk {s : State} (h : s.SolidFill s.cmd) {b n : Nat}
    (hb : ∃ k < n, s.pixelByte (s.mapDesc (selectMap s.cmd.dstSel)) (s.blitWalk k).live.dx (s.blitWalk k).live.dy b) :
    (s.blitWalk n).vramAt b = s.acc.frgdColor.setWidth 8 := by
  induction n with
  | zero =>
    obtain ⟨k, hk, -⟩ := hb
    exact absurd hk k.not_lt_zero
  | succ n ih =>
    have hframe : s.sameButDrawing (s.blitWalk n) := State.sameButDrawing_walk s.drawsLaw_blitWalk n
    obtain ⟨hcolour, hkeep⟩ := (h.of_sameButDrawing hframe).vramAt_blitIter (p := s.blitParams) rfl b
    rw [hframe.mapDesc, hframe.pixelByte] at hcolour hkeep
    rw [State.blitWalk_succ]
    by_cases hnow : s.pixelByte (s.mapDesc (selectMap s.cmd.dstSel)) (s.blitWalk n).live.dx (s.blitWalk n).live.dy b
    · rw [hcolour hnow, State.sameButDrawing_acc hframe]
    · obtain ⟨k, hk, hpixel⟩ := hb
      have hkn : k ≠ n := fun heq => hnow (heq ▸ hpixel)
      rw [hkeep hnow]
      exact ih ⟨k, by omega, hpixel⟩

/-- Settles O49: a hit byte by the walk, the others by what a BitBLT reaches (`State.paintsOnly_bitBlt`). -/
theorem solidFillColoursItsRectangle : Obligations.SolidFillColoursItsRectangle := by
  intro rest s c d xdir ydir _ hpat hsrc hmask hmode hcond hmix hplane hdepth
  have hd : d = c.mapDesc (selectMap c.cmd.dstSel) := by rw [selectMap_eq]; rfl
  rw [hd] at hdepth
  have hfill : c.SolidFill c.cmd := ⟨hpat, hsrc, hmask, hmode, hcond, hmix, hplane, hdepth⟩
  refine ⟨c.bitBlt, rfl, fun b => ⟨?hit, ?miss⟩⟩
  case hit =>
    rintro ⟨hsize, hb, col, row, hcol, hrow, haddr⟩
    obtain ⟨k, hk, hx, hy⟩ := State.blitVisits.exists_blitWalk (s := c) ⟨col, row, hcol, hrow, rfl, rfl⟩
    refine hfill.vramAt_blitWalk ⟨k, hk, ?_⟩
    rw [hx, hy, State.pixelByte_eight hdepth, ← hd]
    exact ⟨hsize, hb, haddr⟩
  case miss =>
    intro hmiss
    by_contra hne
    obtain ⟨x, y, ⟨col, row, hcol, hrow, rfl, rfl⟩, hreach, -⟩ := c.paintsOnly_bitBlt b hne
    rw [State.pixelByte_eight hdepth, ← hd] at hreach
    obtain ⟨hsize, hb, haddr⟩ := hreach
    exact hmiss ⟨hsize, hb, col, row, hcol, hrow, haddr⟩

end Sys2Proof.Machine
end

section
/-! Pixel accesses by depth (R130 to R139): the bit and the byte swap in closed form, and the rows, which take
their own format in place of the map's (log 28). -/

-- Theorem bodies in sequence: many waiting at once would each hold a thread of the compile.
set_option Elab.async false

namespace Sys2Proof.Machine

/-! ## Access-mode predicates (R133, R137, log 10) -/

theorem HostConfig.access8At_eq (c : HostConfig) (am : Byte) :
    HostConfig.access8At c am = (c.access8.map (fun bits => bits.getLsbD am.toNat)).getD (Config.access8 am) := by
  unfold HostConfig.access8At
  cases c.access8 <;> rfl

theorem HostConfig.swap16At_eq (c : HostConfig) (am : Byte) :
    HostConfig.swap16At c am = (c.swap16.map (fun bits => bits.getLsbD am.toNat)).getD (Config.swap16 am) := by
  unfold HostConfig.swap16At
  cases c.swap16 <;> rfl

/-- Bits count from the low end only in a packed map, without the reversal and the 8-bit access mode (R133). -/
theorem State.bitpos_eq (s : State) (d : MapDesc) (x : Int) :
    s.bitpos d x =
      if (!s.flags.linearEndianReverse && packedFlag d.format && !HostConfig.access8At s.cfg s.ext.accessMode) = true
      then (x % 8).toNat else 7 - (x % 8).toNat := by
  unfold State.bitpos
  cases s.flags.linearEndianReverse with
  | true => rfl
  | false =>
    cases packedFlag d.format with
    | false => rfl
    | true => cases HostConfig.access8At s.cfg s.ext.accessMode <;> rfl

theorem State.swapped_eq (s : State) :
    s.swapped = (s.flags.linearEndianReverse && HostConfig.swap16At s.cfg s.ext.accessMode) := by
  unfold State.swapped
  cases s.flags.linearEndianReverse <;> rfl

/-! ## One bit of a word (R134, R135) -/

theorem and_one_eq (v : Word) : v &&& 1 = if v.getLsbD 0 then 1 else 0 := by
  refine BitVec.eq_of_getLsbD_eq fun i _ => ?_
  rw [getLsbD_and_one]
  cases v.getLsbD 0
  · simp
  · simp [BitVec.getLsbD_one]

theorem shiftRight_and_one (v : Word) (p : Nat) : (v >>> p) &&& 1 = if v.getLsbD p then 1 else 0 := by
  rw [and_one_eq, BitVec.getLsbD_ushiftRight, Nat.add_zero]

theorem and_one_shiftLeft (v : Word) (p : Nat) : (v &&& 1) <<< p = if v.getLsbD 0 then 1#32 <<< p else 0 := by
  rw [and_one_eq]
  split
  · rfl
  · exact BitVec.zero_shiftLeft p

theorem State.orient16_eq (s : State) (w : Word) :
    s.orient16 w =
      if (s.flags.linearEndianReverse && HostConfig.swap16At s.cfg s.ext.accessMode) = true
      then (w.extractLsb' 0 8 ++ w.extractLsb' 8 8).setWidth 32 else (w.extractLsb' 0 16).setWidth 32 := by
  rw [State.orient16, State.swapped_eq, bswap16]
  have hlow : (w.extractLsb' 0 16).extractLsb' 0 8 = w.extractLsb' 0 8 := by
    refine BitVec.eq_of_getLsbD_eq fun i hi => ?_
    simp
  have hhigh : (w.extractLsb' 0 16).extractLsb' 8 8 = w.extractLsb' 8 8 := by
    refine BitVec.eq_of_getLsbD_eq fun i hi => ?_
    simp
  rw [hlow, hhigh]

/-! ## The accesses -/

section
variable {d : MapDesc} (hd : depthOf d.format = .one) (s : State) (x y : Int)
include hd

theorem State.readPixelOf_one_bit :
    s.readPixelOf d x y =
      (if (s.accelRead (addr1 s.cfg d x y) 1).1.getLsbD (s.bitpos d x) then 1 else 0,
        (s.accelRead (addr1 s.cfg d x y) 1).2) := by
  rw [State.readPixelOf_one hd, shiftRight_and_one]

theorem State.writePixelOf_one_bit (v : Word) :
    s.writePixelOf d x y v =
      (s.accelRead (addr1 s.cfg d x y) 1).2.accelWrite (addr1 s.cfg d x y) 1
        (((s.accelRead (addr1 s.cfg d x y) 1).1 &&& ~~~(1#32 <<< s.bitpos d x)) |||
          (if v.getLsbD 0 then 1#32 <<< s.bitpos d x else 0)) := by
  rw [State.writePixelOf_one hd, and_one_shiftLeft]

end

/-! ## Depth codes and rows (R111, log 28) -/

theorem depthOf_code_eq {f g : BitVec 4} (h : f.extractLsb' 0 3 = g.extractLsb' 0 3) : depthOf f = depthOf g := by
  rw [depthOf, h, ← depthOf]

theorem depthOf_reserved {f : BitVec 4} (h0 : f.extractLsb' 0 3 ≠ 0) (h3 : f.extractLsb' 0 3 ≠ 3)
    (h4 : f.extractLsb' 0 3 ≠ 4) : depthOf f = .reserved := by
  revert f
  decide

theorem packedFlag_formatCode : ∀ packed code, packedFlag (formatCode packed code) = packed := by
  decide

theorem depthOf_formatCode : ∀ packed : Bool,
    depthOf (formatCode packed 0) = .one ∧ depthOf (formatCode packed 3) = .eight ∧
      depthOf (formatCode packed 4) = .sixteen := by
  decide

theorem exec_formatRow (code : BitVec 3) (packed : Bool) (acc : PixAccess) (s : State) :
    exec (formatRow code packed acc) s = .next (s.accessPixel (formatCode packed code) acc) := by
  obtain ⟨⟨k, hk⟩⟩ := code
  interval_cases k <;> rfl

/-- The rows of the reserved depths are those of codes that select none (R139). -/
theorem exists_reservedCode {row : Bool → PixAccess → Instr}
    (h : row ∈ [Instr.pfRsvd1, Instr.pfRsvd2, Instr.pfRsvd5, Instr.pfRsvd6, Instr.pfRsvd7]) :
    ∃ code, row = formatRow code ∧ ∀ packed, depthOf (formatCode packed code) = .reserved := by
  fin_cases h
  · exact ⟨1, rfl, by decide⟩
  · exact ⟨2, rfl, by decide⟩
  · exact ⟨5, rfl, by decide⟩
  · exact ⟨6, rfl, by decide⟩
  · exact ⟨7, rfl, by decide⟩

/-- Settles O36: the access by its depth, first under the map's own format, then under the row's. -/
theorem pixelRowsReachTheirBytes : Obligations.PixelRowsReachTheirBytes := by
  intro s packed m d w at1 at8 at16 mode low bit swap turn read1 write1 read8 read16 answers code
  have hbit {format : BitVec 4} (hp : packedFlag format = packed) (x : Int) :
      s.bitpos { d with format := format } x = bit x := by
    rw [State.bitpos_eq, hp, HostConfig.access8At_eq]
  have hturn (v : Word) : s.orient16 v = turn v := by
    rw [State.orient16_eq, HostConfig.swap16At_eq]
  have hone {format : BitVec 4} (hp : packedFlag format = packed) (hd : depthOf format = .one) (x y : Int) (v : Word) :
      s.readPixelOf { d with format := format } x y = read1 x y ∧
        s.writePixelOf { d with format := format } x y v = write1 x y v := by
    rw [State.readPixelOf_one_bit hd, State.writePixelOf_one_bit hd, hbit hp]
    exact ⟨rfl, rfl⟩
  have height {format : BitVec 4} (hd : depthOf format = .eight) (x y : Int) (v : Word) :
      s.readPixelOf { d with format := format } x y = read8 x y ∧
        s.writePixelOf { d with format := format } x y v = s.accelWrite (at8 x y) 1 v :=
    ⟨State.readPixelOf_eight hd s x y, State.writePixelOf_eight hd s x y v⟩
  have hsixteen {format : BitVec 4} (hd : depthOf format = .sixteen) (x y : Int) (v : Word) :
      s.readPixelOf { d with format := format } x y = read16 x y ∧
        s.writePixelOf { d with format := format } x y v = s.accelWrite (at16 x y) 2 (turn v) := by
    rw [State.readPixelOf_sixteen hd, State.writePixelOf_sixteen hd, hturn, hturn]
    exact ⟨rfl, rfl⟩
  have hreserved {format : BitVec 4} (hd : depthOf format = .reserved) (x y : Int) (v : Word) :
      s.readPixelOf { d with format := format } x y = (0, s) ∧ s.writePixelOf { d with format := format } x y v = s :=
    ⟨State.readPixelOf_reserved hd s x y, State.writePixelOf_reserved hd s x y v⟩
  have hrow (code : BitVec 3) {x y v : Word} {r : Word × State} {t : State}
      (h : s.readPixelOf { d with format := formatCode packed code } x.toInt y.toInt = r ∧
        s.writePixelOf { d with format := formatCode packed code } x.toInt y.toInt v = t) :
      answers (formatRow code packed (.read m x y)) r ∧ exec (formatRow code packed (.write m x y v)) s = .next t := by
    obtain ⟨rfl, rfl⟩ := h
    exact ⟨exec_formatRow code packed _ s, exec_formatRow code packed _ s⟩
  refine ⟨fun hp x y v => ⟨fun hc => hone hp (depthOf_code_eq (g := 0) hc) x y v,
    fun hc => height (depthOf_code_eq (g := 3) hc) x y v, fun hc => hsixteen (depthOf_code_eq (g := 4) hc) x y v,
    fun h0 h3 h4 => hreserved (depthOf_reserved h0 h3 h4) x y v⟩, fun x y v => ?rows⟩
  case rows =>
    obtain ⟨hd1, hd8, hd16⟩ := depthOf_formatCode packed
    obtain ⟨hr1, hw1⟩ := hrow 0 (hone (packedFlag_formatCode packed 0) hd1 x.toInt y.toInt v)
    obtain ⟨hr8, hw8⟩ := hrow 3 (height hd8 x.toInt y.toInt v)
    obtain ⟨hr16, hw16⟩ := hrow 4 (hsixteen hd16 x.toInt y.toInt v)
    refine ⟨hr1, hw1, hr8, hw8, hr16, hw16, fun row hmem => ?_⟩
    obtain ⟨reserved, rfl, hd⟩ := exists_reservedCode hmem
    exact hrow reserved (hreserved (hd packed) x.toInt y.toInt v)

end Sys2Proof.Machine
end

section
/-! The mixes (R150 to R175) and the plane mask (R176): the formula of each code, which of them work bit by bit, and
what a pixel step makes of the result (R185, R186, R187). -/

-- Theorem bodies in sequence: many waiting at once would each hold a thread of the compile.
set_option Elab.async false

namespace Sys2Proof.Machine

/-- A result that fits its width is computed on integers without loss (R167 to R172). -/
theorem toNat_ofNat_of_lt {w n : Nat} (h : n < 2 ^ w) : (BitVec.ofNat w n).toNat = n := by
  rw [BitVec.toNat_ofNat, Nat.mod_eq_of_lt h]

/-! ## The formula of each code -/

section
variable (d s : Word)

@[simp] theorem ropOf_clear : ropOf 0x00#5 d s = 0 := rfl
@[simp] theorem ropOf_and : ropOf 0x01#5 d s = s &&& d := rfl
@[simp] theorem ropOf_andNot : ropOf 0x02#5 d s = s &&& ~~~d := rfl
@[simp] theorem ropOf_src : ropOf 0x03#5 d s = s := rfl
@[simp] theorem ropOf_notAnd : ropOf 0x04#5 d s = ~~~s &&& d := rfl
@[simp] theorem ropOf_nop : ropOf 0x05#5 d s = d := rfl
@[simp] theorem ropOf_xor : ropOf 0x06#5 d s = s ^^^ d := rfl
@[simp] theorem ropOf_or : ropOf 0x07#5 d s = s ||| d := rfl
@[simp] theorem ropOf_nor : ropOf 0x08#5 d s = ~~~s &&& ~~~d := rfl
@[simp] theorem ropOf_xnor : ropOf 0x09#5 d s = s ^^^ ~~~d := rfl
@[simp] theorem ropOf_notDest : ropOf 0x0A#5 d s = ~~~d := rfl
@[simp] theorem ropOf_orNot : ropOf 0x0B#5 d s = s ||| ~~~d := rfl
@[simp] theorem ropOf_notSrc : ropOf 0x0C#5 d s = ~~~s := rfl
@[simp] theorem ropOf_notOrDest : ropOf 0x0D#5 d s = ~~~s ||| d := rfl
@[simp] theorem ropOf_nand : ropOf 0x0E#5 d s = ~~~s ||| ~~~d := rfl
@[simp] theorem ropOf_set : ropOf 0x0F#5 d s = 0xFFFFFFFF#32 := rfl

theorem toNat_ropOf_max : (ropOf 0x10#5 d s).toNat = max s.toNat d.toNat :=
  toNat_ofNat_of_lt (max_lt s.isLt d.isLt)

theorem toNat_ropOf_min : (ropOf 0x11#5 d s).toNat = min s.toNat d.toNat :=
  toNat_ofNat_of_lt (min_lt_of_left_lt s.isLt)

theorem toNat_ropOf_addSat : (ropOf 0x12#5 d s).toNat = min 0xFF (s.toNat + d.toNat) :=
  toNat_ofNat_of_lt (min_lt_of_left_lt (by decide))

theorem toNat_ropOf_subSatDs : (ropOf 0x13#5 d s).toNat = d.toNat - s.toNat :=
  toNat_ofNat_of_lt (by have := d.isLt; omega)

theorem toNat_ropOf_subSatSd : (ropOf 0x14#5 d s).toNat = s.toNat - d.toNat :=
  toNat_ofNat_of_lt (by have := s.isLt; omega)

theorem toNat_ropOf_avg : (ropOf 0x15#5 d s).toNat = (s.toNat + d.toNat) / 2 :=
  toNat_ofNat_of_lt (by have := s.isLt; have := d.isLt; omega)

end

/-- Settles O42, from the equations of the codes; the second form of `NAND` is De Morgan's law. -/
theorem booleanMixResults : Obligations.BooleanMixResults := by
  intro d s
  have hnand : ropOf 0x0E#5 d s = ~~~(s &&& d) := by rw [ropOf_nand, BitVec.not_and]
  exact ⟨ropOf_clear d s, ropOf_and d s, ropOf_src d s, ropOf_xor d s, ropOf_or d s, ropOf_nor d s, ropOf_xnor d s,
    ropOf_notDest d s, ropOf_notSrc d s, ⟨ropOf_nand d s, hnand⟩, ropOf_set d s⟩

/-- Settles O44: the naturals' maximum, minimum, clamped sum and difference and half are the integers'. -/
theorem arithmeticMixResults : Obligations.ArithmeticMixResults := by
  intro d s
  dsimp only [BitVec.ofNat_eq_ofNat]
  rw [toNat_ropOf_max, toNat_ropOf_min, toNat_ropOf_addSat, toNat_ropOf_subSatDs, toNat_ropOf_subSatSd, toNat_ropOf_avg]
  omega

/-! ## The sixteen boolean codes -/

/-- A property of the codes 0x00 to 0x0F, code by code. -/
theorem forall_booleanCode {P : BitVec 5 → Prop}
    (h : ∀ code ∈ ([0x00, 0x01, 0x02, 0x03, 0x04, 0x05, 0x06, 0x07, 0x08, 0x09, 0x0A, 0x0B, 0x0C, 0x0D, 0x0E, 0x0F] :
      List (BitVec 5)), P code) {code : BitVec 5} (hcode : code.toNat < 16) : P code :=
  h code (by revert code; decide)

theorem getLsbD_allSet {i : Nat} (hi : i < 32) : (0xFFFFFFFF#32).getLsbD i = true :=
  (BitVec.getLsbD_allOnes (v := 32)).trans (decide_eq_true hi)

/-- Under a boolean code a bit of the result depends on the two operands' bits at its place, and on nothing else: each
formula is made of operations that work bit by bit. -/
theorem getLsbD_ropOf_congr {code : BitVec 5} (hcode : code.toNat < 16) {d s d' s' : Word} {i j : Nat} (hi : i < 32)
    (hj : j < 32) (hd : d.getLsbD i = d'.getLsbD j) (hs : s.getLsbD i = s'.getLsbD j) :
    (ropOf code d s).getLsbD i = (ropOf code d' s').getLsbD j := by
  revert hcode
  refine forall_booleanCode (P := fun code => (ropOf code d s).getLsbD i = (ropOf code d' s').getLsbD j) ?_
  simp [-BitVec.getLsbD_eq_getElem, hi, hj, hd, hs, getLsbD_allSet]

/-- A bit as a word. -/
def bitWord (b : Bool) : Word := if b then 1 else 0

theorem getLsbD_bitWord (b : Bool) : (bitWord b).getLsbD 0 = b := by
  cases b <;> rfl

/-- The function of a destination and a source bit that a mix code computes, read off at bit 0. -/
def mixBit (code : BitVec 5) (d s : Bool) : Bool := (ropOf code (bitWord d) (bitWord s)).getLsbD 0

/-- A boolean code computes its function in every bit. -/
theorem getLsbD_ropOf {code : BitVec 5} (hcode : code.toNat < 16) (d s : Word) {i : Nat} (hi : i < 32) :
    (ropOf code d s).getLsbD i = mixBit code (d.getLsbD i) (s.getLsbD i) :=
  getLsbD_ropOf_congr hcode hi (by decide) (getLsbD_bitWord _).symm (getLsbD_bitWord _).symm

/-- A code computes `f` in every bit exactly when its function is `f`. -/
theorem forall_getLsbD_ropOf_iff {code : BitVec 5} (hcode : code.toNat < 16) (f : Bool → Bool → Bool) :
    (∀ (d s : Word) (i : Nat), i < 32 → (ropOf code d s).getLsbD i = f (d.getLsbD i) (s.getLsbD i)) ↔
      mixBit code = f := by
  constructor
  · intro h
    funext a b
    have hbit := h (bitWord a) (bitWord b) 0 (by decide)
    rwa [getLsbD_bitWord, getLsbD_bitWord] at hbit
  · rintro rfl d s i hi
    exact getLsbD_ropOf hcode d s hi

/-- The function of the boolean code of a number below 16. -/
def booleanMix (k : Fin 16) : Bool → Bool → Bool := mixBit (BitVec.ofNat 5 k)

theorem booleanMix_injective : Function.Injective booleanMix := by
  unfold Function.Injective
  decide

/-- There are as many functions of two bits as boolean codes, and no two codes compute the same one (R175). -/
theorem booleanMix_surjective : Function.Surjective booleanMix :=
  ((Fintype.bijective_iff_injective_and_card booleanMix).2 ⟨booleanMix_injective, by simp⟩).2

/-- Settles O43: the codes' functions are a bijection onto the functions of two bits. -/
theorem sixteenBooleanMixes : Obligations.SixteenBooleanMixes := by
  refine ⟨fun d s => ⟨ropOf_andNot d s, ropOf_notAnd d s, ropOf_orNot d s, ropOf_notOrDest d s⟩, fun f => ?_⟩
  obtain ⟨k, rfl⟩ := booleanMix_surjective f
  have hk : (BitVec.ofNat 5 k).toNat = k := toNat_ofNat_of_lt (by omega)
  have hlt : (BitVec.ofNat 5 k).toNat < 16 := hk.trans_lt k.isLt
  refine ⟨BitVec.ofNat 5 k, hlt, (forall_getLsbD_ropOf_iff hlt _).2 rfl, fun other hother hsame => ?_⟩
  have hmix : booleanMix ⟨other.toNat, hother⟩ = booleanMix k := by
    rw [booleanMix, BitVec.ofNat_toNat, BitVec.setWidth_eq]
    exact (forall_getLsbD_ropOf_iff hother _).1 hsame
  exact BitVec.eq_of_toNat_eq ((congrArg Fin.val (booleanMix_injective hmix)).trans hk.symm)

/-! ## The plane mask -/

theorem getLsbD_planeMerge (mask old new : Word) {i : Nat} (hi : i < 32) :
    (planeMerge mask old new).getLsbD i = if mask.getLsbD i then new.getLsbD i else old.getLsbD i := by
  rw [planeMerge, BitVec.getLsbD_or, BitVec.getLsbD_and, BitVec.getLsbD_and, BitVec.getLsbD_not]
  cases mask.getLsbD i <;> simp [hi]

@[simp] theorem planeMerge_none (old new : Word) : planeMerge 0#32 old new = old := by
  refine BitVec.eq_of_getLsbD_eq fun i hi => ?_
  rw [getLsbD_planeMerge _ old new hi, BitVec.getLsbD_zero, if_neg Bool.false_ne_true]

@[simp] theorem planeMerge_all (old new : Word) : planeMerge 0xFFFFFFFF#32 old new = new := by
  refine BitVec.eq_of_getLsbD_eq fun i hi => ?_
  rw [getLsbD_planeMerge _ old new hi, getLsbD_allSet hi, if_pos rfl]

/-- A result that is the old value comes through any mask. -/
@[simp] theorem planeMerge_self (mask old : Word) : planeMerge mask old old = old := by
  refine BitVec.eq_of_getLsbD_eq fun i hi => ?_
  rw [getLsbD_planeMerge mask old old hi, ite_self]

/-! ## The last stages of the pixel step -/

/-- The source operand of a path (R117, R185): the source map's pixel or the path's colour register. -/
theorem State.fetchSource_eq (s : State) (f : CmdFields) (mix : Bool) (sx sy : Int) :
    s.fetchSource f mix sx sy =
      if (if mix then f.fgSrc else f.bgSrc) = 2 then s.readPixel (BitVec.ofNat 2 (f.srcSel.toNat % 4)) sx sy
      else (if mix then s.acc.frgdColor else s.acc.bkgdColor, s) := by
  rw [← selectMap_eq]
  cases mix <;> rfl

/-- Mix, plane mask and write (R185 to R187), with the mix code as the low bits of the path's mix register. -/
theorem State.combine_eq (s : State) (f : CmdFields) (c : StepCtx) (dest : Word) :
    s.combine f c dest =
      (s.fetchSource f c.mix c.sx c.sy).2.writePixel (BitVec.ofNat 2 (f.dstSel.toNat % 4)) c.dx c.dy
        (planeMerge s.acc.planeMask dest
          (ropOf (BitVec.ofNat 5 ((if c.mix then s.acc.frgdMix else s.acc.bkgdMix).toNat % 32)) dest
            (s.fetchSource f c.mix c.sx c.sy).1)) := by
  rw [State.combine, selectMap_eq, State.applyRop_eq]

/-- Settles O46: the merge bit by bit, and the pixel step's last stages. -/
theorem planeMaskMergesBits : Obligations.PlaneMaskMergesBits := by
  refine ⟨fun mask old new => ⟨rfl, fun i hi => getLsbD_planeMerge mask old new hi, planeMerge_none old new,
    planeMerge_all old new⟩, rfl, fun s f c dest => ?step⟩
  case step =>
    dsimp only
    rw [State.combine_eq, State.fetchSource_eq]
    rfl

/-! ## Mixes that keep the destination -/

/-- `NOP` and the undefined codes give the destination (R156, R173). -/
theorem ropOf_of_keeps {code : BitVec 5} (h : code = 0x05 ∨ 0x16 ≤ code.toNat) (d s : Word) : ropOf code d s = d := by
  obtain rfl | h := h
  · exact ropOf_nop d s
  · unfold ropOf
    split
    case h_23 => rfl
    all_goals omega

/-- The first byte of a pixel inside the window and inside video memory is the pixel's (R131, R136, R137). -/
theorem State.pixelByte_first {s : State} {d : MapDesc} {x y : Int} {a : Word} {n : Nat}
    (hat : pixelAt s.cfg d x y = some (a, n)) (hin : s.inWindow a = true)
    (hsize : a.toNat - HostConfig.windowBase s.cfg < HostConfig.vramSize s.cfg) :
    s.pixelByte d x y (a.toNat - HostConfig.windowBase s.cfg) := by
  have hn : 0 < n := by
    unfold pixelAt at hat
    split at hat <;> cases hat <;> decide
  exact (State.pixelByte_inside hat hin _).2 ⟨Nat.le_refl _, Nat.lt_add_of_pos_right hn, hsize⟩

/-- A pixel write after reads stamps the page of the pixel's first byte, wherever it lies in video memory (R75). -/
theorem State.sameButReads.dirty_writePixel {s t : State} (h : s.sameButReads t) (hc : s.memoriesCanonical)
    {m : BitVec 2} {x y : Int} {b : Nat} (hb : s.pixelByte (s.mapDesc m) x y b) (v : Word) :
    (t.writePixel m x y v).dirty (b / 4096) = s.raster.changeframecount := by
  have hframe := h.sameButDrawing
  have hc' : t.memoriesCanonical := by rw [h]; exact hc
  have hb' : t.pixelByte (t.mapDesc m) x y b := by
    rw [hframe.mapDesc]; exact (hframe.pixelByte _ x y b).2 hb
  rw [State.writePixel, ((t.writePixelOf_effect _ x y v).dirty hc' _).1 ⟨b, hb', rfl⟩,
    State.sameButDrawing_raster hframe]

/-- With a mix that keeps the destination the pixel step writes the destination back (R156, R173). -/
theorem State.combine_of_keeps {s : State} {c : StepCtx} {code : BitVec 5} (hkeeps : code = 0x05 ∨ 0x16 ≤ code.toNat)
    (hcode : (if c.mix then s.acc.frgdMix else s.acc.bkgdMix).toNat % 32 = code.toNat) (f : CmdFields) (dest : Word) :
    s.combine f c dest =
      (s.fetchSource f c.mix c.sx c.sy).2.writePixel (BitVec.ofNat 2 (f.dstSel.toNat % 4)) c.dx c.dy dest := by
  rw [State.combine_eq, hcode, BitVec.ofNat_toNat, BitVec.setWidth_eq, ropOf_of_keeps hkeeps, planeMerge_self]

/-- Settles O45: the result, the write-back (`State.combine_of_keeps`) and its stamp. -/
theorem nopAndUndefinedMixesKeepDestination : Obligations.NopAndUndefinedMixesKeepDestination := by
  intro code hkeeps
  refine ⟨ropOf_of_keeps hkeeps, fun st f c dest hcode => ?_⟩
  have hcombine := State.combine_of_keeps hkeeps hcode f dest
  refine ⟨hcombine, fun a n hc hat hin hsize => ?_⟩
  rw [hcombine]
  exact (st.sameButReads_fetchSource f c.mix c.sx c.sy).dirty_writePixel hc (State.pixelByte_first hat hin hsize) dest

end Sys2Proof.Machine
end

section
/-! The stages of the shared pixel step (R182 to R188, R373): what the draw mode and the clip admit, the condition of
the comparison by its code, and which of its ends a step comes to. -/

-- Theorem bodies in sequence: many waiting at once would each hold a thread of the compile.
set_option Elab.async false

namespace Sys2Proof.Machine

/-! ## The gates -/

/-- Draw mode 1 keeps the first column out, draw mode 2 the first row, and no mode any other pixel (R105, R182, D13). -/
theorem drawModeAdmits_iff (mode : BitVec 2) (firstCol firstRow : Bool) :
    drawModeAdmits mode firstCol firstRow = true ↔
      ¬ (mode = 1 ∧ firstCol = true) ∧ ¬ (mode = 2 ∧ firstRow = true) := by
  unfold drawModeAdmits
  split
  case h_1 hmode =>
    obtain rfl : mode = 1 := BitVec.eq_of_toNat_eq hmode
    simp
  case h_2 hmode =>
    obtain rfl : mode = 2 := BitVec.eq_of_toNat_eq hmode
    simp
  case h_3 hcol hrow =>
    exact iff_of_true rfl
      ⟨fun ⟨hmode, _⟩ => hcol (congrArg BitVec.toNat hmode),
        fun ⟨hmode, _⟩ => hrow (congrArg BitVec.toNat hmode)⟩

/-- The clip shuts out what lies outside its rectangle, under a mask mode other than 0 (R106, R183). -/
theorem State.clipPass_iff (s : State) (maskMode : BitVec 2) (x y : Int) :
    s.clipPass maskMode x y = true ↔ ¬ (maskMode ≠ 0 ∧ s.inClip x y = false) := by
  rw [State.clipPass]
  split
  case isTrue hoff => exact iff_of_true rfl fun ⟨hon, _⟩ => hon hoff
  case isFalse hon => rw [and_iff_right hon, Bool.not_eq_false]

/-- The half-open rectangle of the clip, with map 0's dimensions as natural numbers (R183, D12). -/
theorem State.inClip_iff (s : State) (x y : Int) :
    s.inClip x y = true ↔
      sext13 s.acc.maskOriginX ≤ x ∧
      x < sext13 s.acc.maskOriginX + (s.acc.maps.m0.width.toNat + s.cfg.mapDimBias : Nat) ∧
      sext13 s.acc.maskOriginY ≤ y ∧
      y < sext13 s.acc.maskOriginY + (s.acc.maps.m0.height.toNat + s.cfg.mapDimBias : Nat) := by
  rw [State.inClip_eq, decide_eq_true_iff, Nat.cast_add, Nat.cast_add]

/-- The condition codes in order, each an unsigned comparison with the whole compare register (R108, R184, D11). -/
theorem State.map_ccPass (s : State) (dest : Word) :
    (List.range 8).map (fun k => s.ccPass (BitVec.ofNat 3 k) dest) =
      [true, decide (s.acc.colorCmp.toNat < dest.toNat), decide (dest.toNat = s.acc.colorCmp.toNat),
       decide (dest.toNat < s.acc.colorCmp.toNat), s.cfg.ccCode4Passes, decide (s.acc.colorCmp.toNat ≤ dest.toNat),
       decide (dest.toNat ≠ s.acc.colorCmp.toNat), decide (dest.toNat ≤ s.acc.colorCmp.toNat)] :=
  rfl

/-! ## The ends of a pixel step -/

section
variable {s : State} {f : CmdFields} {c : StepCtx}

/-- A step that a gate before the destination read stops changes nothing (R182, R183, R188). -/
theorem State.pixelStep_of_shut
    (h : drawModeAdmits f.drawMode c.firstCol c.firstRow = false ∨ s.clipPass f.maskMode c.dx c.dy = false) :
    s.pixelStep f c = s := by
  unfold State.pixelStep
  obtain hmode | hclip := h
  · exact if_pos hmode
  · rw [if_pos hclip, ite_self]

/-- A step that passes both gates reads its destination, and the comparison decides whether it goes on (R184, R188). -/
theorem State.pixelStep_of_open (hmode : drawModeAdmits f.drawMode c.firstCol c.firstRow = true)
    (hclip : s.clipPass f.maskMode c.dx c.dy = true) {dest : Word × State}
    (hdest : s.readPixel (BitVec.ofNat 2 (f.dstSel.toNat % 4)) c.dx c.dy = dest) :
    s.pixelStep f c = if dest.2.ccPass s.acc.ccCond dest.1 = false then dest.2 else dest.2.combine f c dest.1 := by
  rw [← hdest, ← selectMap_eq, State.pixelStep, hmode, hclip, if_neg Bool.true_eq_false.mp,
    if_neg Bool.true_eq_false.mp]

end

/-- Settles O47: the gates by their conditions, the ends of a step, and the source of each path. -/
theorem pixelStepStages : Obligations.PixelStepStages := by
  refine ⟨fun s f c => ?ends, State.inClip_iff, State.map_ccPass, fun s f sx sy => ?source⟩
  case ends =>
    have hadmit := drawModeAdmits_iff f.drawMode c.firstCol c.firstRow
    have hclip := s.clipPass_iff f.maskMode c.dx c.dy
    refine ⟨fun hshut => State.pixelStep_of_shut ?_, fun hmode hin hfail => ?_, fun hmode hin hpass => ?_⟩
    · exact hshut.imp (fun hout => Bool.eq_false_iff.2 (mt hadmit.1 hout))
        (fun hout => Bool.eq_false_iff.2 fun hpass => hclip.1 hpass hout)
    · rw [State.pixelStep_of_open (hadmit.2 hmode) (hclip.2 hin) rfl, if_pos hfail]
    · rw [State.pixelStep_of_open (hadmit.2 hmode) (hclip.2 hin) rfl, hpass, if_neg Bool.true_eq_false.mp]
  case source =>
    have hfg := s.fetchSource_eq f true sx sy
    have hbg := s.fetchSource_eq f false sx sy
    exact ⟨fun h => hfg.trans (if_pos h), fun h => hfg.trans (if_neg h),
      fun h => hbg.trans (if_pos h), fun h => hbg.trans (if_neg h)⟩

end Sys2Proof.Machine
end

section
/-! The walk of a BitBLT in closed form (R200 to R206): the coordinates of each iteration with their wraps, the pixel that
it makes, and where the walk ends. -/

-- Theorem bodies in sequence: many waiting at once would each hold a thread of the compile.
set_option Elab.async false

namespace Sys2Proof.Machine

/-! ## Wraps and tiling (R204) -/

theorem wrapIf_eq (tiled : Bool) (v : Int) (n : Nat) :
    wrapIf tiled v n = if tiled = true ∧ 0 < n then v % n else v := by
  unfold wrapIf
  rcases Nat.eq_zero_or_pos n with rfl | hn
  · simp
  · simp [hn, hn.ne']

/-- Wrapping at every advance is wrapping once at the end. -/
theorem wrapIf_wrapIf_add (tiled : Bool) (v d : Int) (n : Nat) :
    wrapIf tiled (wrapIf tiled v n + d) n = wrapIf tiled (v + d) n := by
  simp only [wrapIf_eq]
  split
  · exact Int.emod_add_emod v n d
  · rfl

theorem State.srcTiled_eq (s : State) :
    s.srcTiled = s.cfg.srcTiled.getD (Config.srcTiled s.acc.maps s.acc.command) := by
  unfold State.srcTiled
  cases s.cfg.srcTiled <;> rfl

theorem State.patTiled_eq (s : State) :
    s.patTiled = s.cfg.patTiled.getD (Config.patTiled s.acc.maps s.acc.command) := by
  unfold State.patTiled
  cases s.cfg.patTiled <;> rfl

/-- Without a pattern nothing of it is tiled (R204). -/
theorem State.blitParams_ptile (s : State) :
    s.blitParams.ptile =
      (decide (s.cmd.patSel ≠ 8) && s.cfg.patTiled.getD (Config.patTiled s.acc.maps s.acc.command)) := by
  rw [← State.patTiled_eq]
  show (if patterned s.cmd then s.patTiled else false) = (patterned s.cmd && s.patTiled)
  cases patterned s.cmd <;> rfl

/-! ## The coordinates -/

/-- The live coordinates of a BitBLT at a column and a row (R201, R204, R205). -/
def State.blitLive (s : State) (col row : Nat) : Live :=
  let p := s.blitParams
  { sx := wrapIf p.stile (sext13 s.acc.srcMapX + p.xdir * col) p.srcW
    sy := wrapIf p.stile (sext13 s.acc.srcMapY + p.ydir * row) p.srcH
    px := wrapIf p.ptile (sext13 s.acc.patMapX + p.xdir * col) p.patW
    py := wrapIf p.ptile (sext13 s.acc.patMapY + p.ydir * row) p.patH
    dx := sext13 s.acc.dstMapX + p.xdir * col
    dy := sext13 s.acc.dstMapY + p.ydir * row
    x := p.w - col
    y := p.h - row }

theorem State.blitStart_eq (s : State) : s.blitStart s.blitParams = s.blitLive 0 0 := by
  simp [State.blitLive, State.blitStart, State.blitParams]

theorem State.blitAdvance_blitLive_column (s : State) {col : Nat} (hcol : col < s.acc.bltWidth.toNat) (row : Nat) :
    blitAdvance s.blitParams (s.blitLive col row) = s.blitLive (col + 1) row := by
  have hmore : ¬ (s.blitLive col row).x - 1 < 0 := by
    show ¬ (s.acc.bltWidth.toNat : Int) - col - 1 < 0
    omega
  rw [blitAdvance, if_neg hmore]
  simp only [State.blitLive, wrapIf_wrapIf_add, Nat.cast_add, Nat.cast_one, mul_add, mul_one, add_assoc, sub_sub]

theorem State.blitAdvance_blitLive_row (s : State) (row : Nat) :
    blitAdvance s.blitParams (s.blitLive s.acc.bltWidth.toNat row) = s.blitLive 0 (row + 1) := by
  have hlast : (s.blitLive s.acc.bltWidth.toNat row).x - 1 < 0 := by
    show (s.acc.bltWidth.toNat : Int) - s.acc.bltWidth.toNat - 1 < 0
    omega
  have hsx : s.blitParams.sx0 = (s.blitLive 0 0).sx := congrArg Live.sx s.blitStart_eq
  have hpx : s.blitParams.px0 = (s.blitLive 0 0).px := congrArg Live.px s.blitStart_eq
  have hdx : s.blitParams.dx0 = (s.blitLive 0 0).dx := congrArg Live.dx s.blitStart_eq
  rw [blitAdvance, if_pos hlast, hsx, hpx, hdx]
  simp only [State.blitLive, wrapIf_wrapIf_add, Nat.cast_add, Nat.cast_one, Nat.cast_zero, mul_add, mul_one, add_assoc,
    sub_sub, sub_zero]

theorem State.blitWalk_live_succ (s : State) (k : Nat) :
    (s.blitWalk (k + 1)).live = blitAdvance s.blitParams (s.blitWalk k).live := by
  rw [State.blitWalk_succ]
  rfl

/-- From the start of a row the columns follow one another. -/
theorem State.blitWalk_live_columns {s : State} {k row : Nat} (hstart : (s.blitWalk k).live = s.blitLive 0 row)
    {col : Nat} (hcol : col ≤ s.acc.bltWidth.toNat) : (s.blitWalk (k + col)).live = s.blitLive col row := by
  induction col with
  | zero => exact hstart
  | succ col ih =>
    rw [← Nat.add_assoc, State.blitWalk_live_succ, ih (Nat.le_of_lt hcol), s.blitAdvance_blitLive_column hcol]

theorem State.blitWalk_live_rowStart (s : State) (row : Nat) :
    (s.blitWalk ((s.acc.bltWidth.toNat + 1) * row)).live = s.blitLive 0 row := by
  induction row with
  | zero => exact s.blitStart_eq
  | succ row ih =>
    rw [Nat.mul_succ, ← Nat.add_assoc, State.blitWalk_live_succ, State.blitWalk_live_columns ih le_rfl,
      s.blitAdvance_blitLive_row]

/-- Iteration `k` of a BitBLT stands at the column and the row that the row's length divides `k` into. -/
theorem State.blitWalk_live (s : State) (k : Nat) :
    (s.blitWalk k).live = s.blitLive (k % (s.acc.bltWidth.toNat + 1)) (k / (s.acc.bltWidth.toNat + 1)) := by
  have hcol : k % (s.acc.bltWidth.toNat + 1) ≤ s.acc.bltWidth.toNat := Nat.le_of_lt_succ (Nat.mod_lt k (Nat.succ_pos _))
  have hlive := State.blitWalk_live_columns (s.blitWalk_live_rowStart (k / (s.acc.bltWidth.toNat + 1))) hcol
  rwa [Nat.div_add_mod] at hlive

theorem State.bitBlt_eq (s : State) :
    s.bitBlt = (s.blitWalk ((s.acc.bltWidth.toNat + 1) * (s.acc.bltHeight.toNat + 1))).writeBack := rfl

/-- A BitBLT ends in its first column (R206, D14). -/
theorem State.bitBlt_dstMapX (s : State) : s.bitBlt.acc.dstMapX = trunc16 (sext13 s.acc.dstMapX) := by
  rw [State.bitBlt_eq, State.writeBack_acc, State.blitWalk_live_rowStart]
  simp [State.blitLive]

/-- A BitBLT ends in the row past its last (R206, D14). -/
theorem State.bitBlt_dstMapY (s : State) :
    s.bitBlt.acc.dstMapY =
      trunc16 (sext13 s.acc.dstMapY + octantYdir s.cmd.octant * (s.acc.bltHeight.toNat + 1)) := by
  rw [State.bitBlt_eq, State.writeBack_acc, State.blitWalk_live_rowStart]
  rfl

/-! ## The pixel of an iteration -/

/-- The pixel of one iteration: the pattern read where a pattern is selected, then the pixel step (R201, R202, R203). -/
theorem State.blitPixel_eq (s : State) (p : BlitParams) :
    let pixel := s.readPixel (selectMap p.f.patSel) s.live.px s.live.py
    let ctx : Bool → StepCtx := fun mix =>
      { sx := s.live.sx, sy := s.live.sy, dx := s.live.dx, dy := s.live.dy, mix := mix
        firstCol := decide (s.live.x = p.w), firstRow := decide (s.live.y = p.h) }
    s.blitPixel p =
      if p.f.patSel = 8 then s.pixelStep p.f (ctx true) else pixel.2.pixelStep p.f (ctx (decide (pixel.1 ≠ 0))) := by
  dsimp only
  rw [State.blitPixel, State.fetchMix_eq]
  split <;> rfl

/-- The counters hold their start values in column 0 and in row 0 (R203, D13). -/
theorem State.blitLive_first (s : State) (col row : Nat) :
    decide ((s.blitLive col row).x = s.blitParams.w) = decide ((col : Int) = 0) ∧
      decide ((s.blitLive col row).y = s.blitParams.h) = decide ((row : Int) = 0) :=
  ⟨decide_eq_decide.2 sub_eq_self, decide_eq_decide.2 sub_eq_self⟩

/-- Iteration `k` makes the pixel of its column and row, and advances. -/
theorem State.blitWalk_pixel (s : State) (k : Nat) :
    let u := s.blitWalk k
    let pixel := u.readPixel (selectMap s.cmd.patSel) u.live.px u.live.py
    let ctx : Bool → StepCtx := fun mix =>
      { sx := u.live.sx, sy := u.live.sy, dx := u.live.dx, dy := u.live.dy, mix := mix
        firstCol := decide (((k % (s.acc.bltWidth.toNat + 1) : Nat) : Int) = 0)
        firstRow := decide (((k / (s.acc.bltWidth.toNat + 1) : Nat) : Int) = 0) }
    s.blitWalk (k + 1) =
      (if s.cmd.patSel = 8 then u.pixelStep s.cmd (ctx true)
        else pixel.2.pixelStep s.cmd (ctx (decide (pixel.1 ≠ 0)))).withLive (s.blitWalk (k + 1)).live := by
  obtain ⟨hcol, hrow⟩ := s.blitLive_first (k % (s.acc.bltWidth.toNat + 1)) (k / (s.acc.bltWidth.toNat + 1))
  rw [← State.blitWalk_live] at hcol hrow
  have hpixel := (s.blitWalk k).blitPixel_eq s.blitParams
  rw [hcol, hrow] at hpixel
  dsimp only at hpixel ⊢
  rw [State.blitWalk_live_succ, State.blitWalk_succ, State.blitIter, hpixel]
  rfl

/-- Settles O48: the coordinates row by row along the walk, each iteration as its pixel, the end by the frame. -/
theorem blitWalksRowsAndEndsPastLast : Obligations.BlitWalksRowsAndEndsPastLast := by
  intro rest s c f xdir ydir w h src patMap pat stile ptile wrap walked
  have hwrap : wrap = fun tiled dim v => wrapIf tiled v (dim.toNat + s.cfg.mapDimBias) := by
    funext tiled dim v
    exact (wrapIf_eq tiled v _).symm
  have hstile : stile = c.blitParams.stile := c.srcTiled_eq.symm
  have hptile : ptile = c.blitParams.ptile := c.blitParams_ptile.symm
  have hsrc : src = c.mapDesc (selectMap f.srcSel) := by rw [selectMap_eq]; rfl
  have hpat : pat = c.mapDesc (selectMap f.patSel) := by rw [selectMap_eq]; rfl
  refine ⟨fun k => ⟨?live, ?pixel⟩, c.bitBlt, rfl, c.bitBlt_eq, ?frame, c.bitBlt_dstMapX, c.bitBlt_dstMapY⟩
  case live =>
    rw [hwrap, hstile, hptile, hsrc, hpat]
    exact c.blitWalk_live k
  case pixel =>
    have hiter := c.blitWalk_pixel k
    rw [selectMap_eq] at hiter
    exact hiter
  case frame =>
    obtain ⟨hsame, -⟩ := State.drawsLaw_bitBlt c
    exact hsame

end Sys2Proof.Machine
end

section
/-! The walk of a line in closed form (R220 to R225): the coordinates at each position, the pixel that it makes, and where
the walk ends. -/

-- Theorem bodies in sequence: many waiting at once would each hold a thread of the compile.
set_option Elab.async false

namespace Sys2Proof.Machine

/-! ## The coordinates -/

/-- The live coordinates of a line at position `k` (R220, R222): source and pattern stay where the registers put them. -/
def State.lineLive (s : State) (k : Nat) : Live :=
  let p := s.lineParams
  let err := sext14 s.acc.bresErrTerm
  { s.loadLive k (s.acc.bltWidth.toNat - k) with
    dx := sext13 s.acc.dstMapX + p.xdir * lineSteps p err (!p.ymajor) k
    dy := sext13 s.acc.dstMapY + p.ydir * lineSteps p err p.ymajor k }

/-- Along a line the source and the pattern stay, and `x` counts the positions. -/
theorem State.lineWalk_live_stays (s : State) {k : Nat} (hk : k ≤ s.acc.bltWidth.toNat) :
    (s.lineWalk k).2.live =
      { s.loadLive k (s.acc.bltWidth.toNat - k) with
        dx := (s.lineWalk k).2.live.dx, dy := (s.lineWalk k).2.live.dy } := by
  induction k with
  | zero => simp [State.lineWalk, iter, State.loadLive]
  | succ k ih =>
    have hleft := (s.lineWalk_at (Nat.le_of_lt hk)).left
    obtain ⟨-, hlive⟩ := lineIter_move (p := s.lineParams) (es := s.lineWalk k) (by omega)
    rw [State.lineWalk_succ, hlive, ih (Nat.le_of_lt hk)]
    simp only [lineMove, State.loadLive, Nat.cast_add, Nat.cast_one, sub_sub]

theorem State.lineWalk_live (s : State) {k : Nat} (hk : k ≤ s.acc.bltWidth.toNat) :
    (s.lineWalk k).2.live = s.lineLive k := by
  have hat := s.lineWalk_at hk
  rw [s.lineWalk_live_stays hk, hat.dx, hat.dy]
  rfl

theorem lineIter_live_last {p : LineParams} {es : Int × State} (h : es.2.live.y = 0) :
    (lineIter p es).2.live = { es.2.live with y := es.2.live.y - 1 } := by
  unfold lineIter
  dsimp only
  rw [if_pos (by omega)]
  rfl

/-- The last position is not left: the coordinates stay where they are (R225). -/
theorem State.lineWalk_live_end (s : State) :
    (s.lineWalk (s.acc.bltWidth.toNat + 1)).2.live = { s.lineLive s.acc.bltWidth.toNat with y := -1 } := by
  have hlive := s.lineWalk_live le_rfl
  have hzero : (s.lineLive s.acc.bltWidth.toNat).y = 0 := Int.sub_self _
  rw [State.lineWalk_succ, lineIter_live_last (by rw [hlive, hzero]), hlive, hzero]
  rfl

theorem State.lineDraw_eq (s : State) : s.lineDraw = (s.lineWalk (s.acc.bltWidth.toNat + 1)).2.writeBack := rfl

/-- A line ends at its last position (R225, D16). -/
theorem State.lineDraw_dst (s : State) :
    s.lineDraw.acc.dstMapX = trunc16 (s.lineLive s.acc.bltWidth.toNat).dx ∧
      s.lineDraw.acc.dstMapY = trunc16 (s.lineLive s.acc.bltWidth.toNat).dy := by
  rw [State.lineDraw_eq, State.writeBack_acc, State.lineWalk_live_end]
  exact ⟨rfl, rfl⟩

/-! ## The pixel of a position -/

/-- Position `k` of a line makes its pixel: the flags mark the first and the last position (R223, D13). -/
theorem State.lineWalk_pixel (s : State) {k : Nat} (hk : k ≤ s.acc.bltWidth.toNat) :
    let u := (s.lineWalk k).2
    let pixel := u.readPixel (selectMap s.cmd.patSel) (sext13 s.acc.patMapX) (sext13 s.acc.patMapY)
    let ctx : Bool → StepCtx := fun mix =>
      { sx := sext13 s.acc.srcMapX, sy := sext13 s.acc.srcMapY, dx := (s.lineLive k).dx, dy := (s.lineLive k).dy
        mix := mix, firstCol := decide (k = 0), firstRow := decide (k = s.acc.bltWidth.toNat) }
    (s.lineWalk (k + 1)).2 =
      (if s.cmd.patSel = 8 then u.pixelStep s.cmd (ctx true)
        else pixel.2.pixelStep s.cmd (ctx (decide (pixel.1 ≠ 0)))).withLive (s.lineWalk (k + 1)).2.live := by
  have hlive := s.lineWalk_live hk
  have hcol : decide ((s.lineWalk k).2.live.x = 0) = decide (k = 0) := by
    rw [decide_eq_decide, hlive]; exact Int.natCast_eq_zero
  have hrow : decide ((s.lineWalk k).2.live.y = 0) = decide (k = s.acc.bltWidth.toNat) := by
    rw [decide_eq_decide, hlive]; show (s.acc.bltWidth.toNat : Int) - k = 0 ↔ _; omega
  have hpixel := (s.lineWalk k).2.walkPixel_eq s.cmd
  rw [hcol, hrow, hlive] at hpixel
  have hiter := lineIter_snd s.lineParams (s.lineWalk k)
  rw [← State.lineWalk_succ] at hiter
  exact hiter.trans (congrArg (State.withLive · _) hpixel)

/-- Settles O50: the coordinates by induction along the walk, each position as its pixel, the end by the frame. -/
theorem lineWalksMajorAxis : Obligations.LineWalksMajorAxis := by
  intro rest s c f p xdir ydir n err xAt yAt patMap walked
  have hx : ∀ k, (c.lineLive k).dx = xAt k := fun k =>
    congrArg (fun m : Nat => sext13 s.acc.dstMapX + xdir * (m : Int)) (lineSteps_not p err p.ymajor k)
  obtain ⟨hendX, hendY⟩ := c.lineDraw_dst
  refine ⟨fun e => rfl, fun k hk => ⟨(c.lineWalk_at hk).term, ?live, ?pixel⟩, c.lineDraw, rfl, c.lineDraw_eq, ?frame,
    hendX.trans (congrArg trunc16 (hx n)), hendY⟩
  case live =>
    rw [← hx]
    exact c.lineWalk_live hk
  case pixel =>
    have hiter := c.lineWalk_pixel hk
    rw [selectMap_eq, hx] at hiter
    exact hiter
  case frame =>
    obtain ⟨hsame, -⟩ := State.drawsLaw_lineDraw c
    exact hsame

end Sys2Proof.Machine
end

section
/-! How near a line stays to the ideal one (R222, R227): with the standard midpoint terms the error term is an affine function
of the deviation from the ideal line, and each of its signs leads to a move that keeps the deviation within half a unit. -/

namespace Sys2Proof.Machine

/-! ## The deviation from the ideal line (R222) -/

/-- Twice the distance, along the minor axis, by which the ideal line of extents `dmaj` and `dmin` is ahead of position `k`,
in units of `1 / dmaj`. -/
def midpointLead (p : LineParams) (dmaj dmin k : Nat) : Int :=
  2 * ((k : Int) * dmin - lineMinorSteps p (2 * (dmin : Int) - dmaj) k * dmaj)

section
variable {p : LineParams} {dmaj dmin : Nat}

@[simp] theorem midpointLead_zero : midpointLead p dmaj dmin 0 = 0 := by
  simp [midpointLead, lineMinorSteps]

/-- What one move does to the lead: the ideal line goes `dmin / dmaj` ahead, the position follows by a unit or stays. -/
theorem midpointLead_succ (k : Nat) :
    midpointLead p dmaj dmin (k + 1) = midpointLead p dmaj dmin k + 2 * dmin -
      if lineErrAt p (2 * (dmin : Int) - dmaj) k < 0 then 0 else 2 * (dmaj : Int) := by
  unfold midpointLead
  rw [lineMinorSteps_succ]
  split <;> push_cast <;> ring

/-- The standard terms make the error term the lead at the midpoint of the next move, so that its sign tells which of the
two candidate positions is nearer. -/
theorem lineErrAt_midpoint (hk1 : p.k1 = 2 * dmin) (hk2 : p.k2 = 2 * ((dmin : Int) - dmaj)) (k : Nat) :
    lineErrAt p (2 * (dmin : Int) - dmaj) k = midpointLead p dmaj dmin k + 2 * dmin - dmaj := by
  induction k with
  | zero => simp [lineErrAt]
  | succ k ih =>
    rw [midpointLead_succ, lineErrAt, lineErr, hk1, hk2]
    split <;> omega

/-- Every position is within half a unit of the ideal line: after a negative error term the lead grows by `2 * dmin` and stays
below `dmaj`, after any other it drops by `2 * (dmaj - dmin)` and stays at least `-dmaj`. -/
theorem midpointLead_bounds (hle : dmin ≤ dmaj) (hk1 : p.k1 = 2 * dmin) (hk2 : p.k2 = 2 * ((dmin : Int) - dmaj)) (k : Nat) :
    -(dmaj : Int) ≤ midpointLead p dmaj dmin k ∧ midpointLead p dmaj dmin k ≤ dmaj := by
  induction k with
  | zero => simp
  | succ k ih =>
    have herr := lineErrAt_midpoint hk1 hk2 k
    rw [midpointLead_succ]
    split <;> omega

/-- Where the ideal line meets a whole unit `t`, the position is on it. -/
theorem lineMinorSteps_eq_of_ideal (hle : dmin ≤ dmaj) (hk1 : p.k1 = 2 * dmin) (hk2 : p.k2 = 2 * ((dmin : Int) - dmaj))
    {k t : Nat} (hpos : 0 < dmaj) (hideal : k * dmin = t * dmaj) :
    lineMinorSteps p (2 * (dmin : Int) - dmaj) k = t := by
  obtain ⟨hlow, hhigh⟩ := midpointLead_bounds hle hk1 hk2 k
  have hlead : midpointLead p dmaj dmin k =
      2 * ((t : Int) - lineMinorSteps p (2 * (dmin : Int) - dmaj) k) * dmaj := by
    have hideal' : (k : Int) * dmin = t * dmaj := mod_cast hideal
    rw [midpointLead, hideal']
    ring
  have hpos' : (0 : Int) < dmaj := mod_cast hpos
  have hlow' : -1 ≤ 2 * ((t : Int) - lineMinorSteps p (2 * (dmin : Int) - dmaj) k) :=
    le_of_mul_le_mul_right (by linarith) hpos'
  have hhigh' : 2 * ((t : Int) - lineMinorSteps p (2 * (dmin : Int) - dmaj) k) ≤ 1 :=
    le_of_mul_le_mul_right (by linarith) hpos'
  omega

end

/-! ## The obligation -/

/-- Settles O51: the invariant on the lead bounds every position, and pins those where the ideal line meets a whole unit. -/
theorem midpointLineIsNearest : Obligations.MidpointLineIsNearest := by
  intro p dmaj dmin hle hk1 hk2 m
  have hwhole : ∀ k t : Nat, k ≤ dmaj → t ≤ k → k * dmin = t * dmaj → m k = t := by
    intro k t hk ht hideal
    rcases Nat.eq_zero_or_pos dmaj with hzero | hpos
    · obtain rfl : k = 0 := by omega
      obtain rfl : t = 0 := by omega
      rfl
    · exact congrArg Nat.cast (lineMinorSteps_eq_of_ideal hle hk1 hk2 hpos hideal)
  refine ⟨fun k _ => ?near, hwhole dmaj dmin le_rfl hle (Nat.mul_comm _ _), ?diagonal⟩
  case near =>
    obtain ⟨hlow, hhigh⟩ := midpointLead_bounds hle hk1 hk2 k
    refine ⟨?_, hhigh⟩
    have hneg : 2 * (m k * dmaj - k * dmin) = -midpointLead p dmaj dmin k := by
      unfold midpointLead m
      ring
    rw [hneg]
    exact neg_le.mp hlow
  case diagonal =>
    rintro rfl k hk
    exact hwhole k k hk le_rfl rfl

end Sys2Proof.Machine
end

section
/-! Where a short-stroke word ends (R236, R239, R240): each stroke adds its displacement to the start position, and the
13-bit registers between the strokes keep that sum modulo their wrap. -/

-- Theorem bodies in sequence: many waiting at once would each hold a thread of the compile.
set_option Elab.async false

namespace Sys2Proof.Machine

/-! ## Coordinates modulo the wrap -/

/-- A coordinate that is stored and fetched again is the same modulo 2 ^ 13 (R9, R112). -/
theorem sext13_trunc16_modEq (v : Int) : sext13 (trunc16 v) ≡ v [ZMOD 8192] := by
  have hstored : ((trunc16 v).toNat : Int) = v % 65536 := by
    rw [trunc16, BitVec.toNat_ofInt]
    exact Int.toNat_of_nonneg (Int.emod_nonneg _ (by decide))
  have hfetched : sext13 (trunc16 v) = Int.bmod (v % 65536) 8192 := by
    rw [sext13, ← BitVec.setWidth_eq_extractLsb' (by decide), BitVec.toInt_setWidth, hstored]
  calc sext13 (trunc16 v) % 8192 = v % 65536 % 8192 := by rw [hfetched]; exact Int.bmod_emod
    _ = v % 8192 := Int.emod_emod_of_dvd v (by decide)

/-- A position that each step moves by its displacement, modulo `m`, ends at the sum of the displacements. -/
theorem modEq_add_sum_range {m : Int} {pos move : Nat → Int} (hstep : ∀ k, pos (k + 1) ≡ pos k + move k [ZMOD m])
    (k : Nat) : pos k ≡ pos 0 + ∑ i ∈ Finset.range k, move i [ZMOD m] := by
  induction k with
  | zero => rw [Finset.sum_range_zero, Int.add_zero]
  | succ k ih =>
    rw [Finset.sum_range_succ, ← Int.add_assoc]
    exact (hstep k).trans (ih.add_right _)

/-! ## One stroke -/

/-- The displacement of a stroke byte: its length along its direction (R110, R118). -/
def strokeMove (b : Byte) : Int × Int :=
  let len : Int := (b.extractLsb' 0 4).toNat
  (len * (strokeDirection (b.extractLsb' 5 3)).1, len * (strokeDirection (b.extractLsb' 5 3)).2)

/-- A stroke, drawn or not, stores the position of its last pixel (R237, R240). -/
theorem State.strokeByte_dst (s : State) (b : Byte) :
    (s.strokeByte b).acc.dstMapX = trunc16 (sext13 s.acc.dstMapX + (strokeMove b).1) ∧
    (s.strokeByte b).acc.dstMapY = trunc16 (sext13 s.acc.dstMapY + (strokeMove b).2) := by
  rw [State.strokeByte, State.stroke_eq, State.writeBack_acc, State.strokeWalk_live_end]
  exact ⟨rfl, rfl⟩

/-! ## The word -/

/-- The four bytes in turn are the walk of the word (R239). -/
theorem State.shortStrokes_eq (s : State) : s.shortStrokes = s.shortStrokeWalk 4 := rfl

/-- After `k` bytes the position is the start plus their displacements, modulo the wrap (R239, R240). -/
theorem State.shortStrokeWalk_dst (s : State) (k : Nat) :
    sext13 (s.shortStrokeWalk k).acc.dstMapX ≡
      sext13 s.acc.dstMapX + ∑ i ∈ Finset.range k, (strokeMove (byteLane s.acc.shortStroke i)).1 [ZMOD 8192] ∧
    sext13 (s.shortStrokeWalk k).acc.dstMapY ≡
      sext13 s.acc.dstMapY + ∑ i ∈ Finset.range k, (strokeMove (byteLane s.acc.shortStroke i)).2 [ZMOD 8192] := by
  have hdst (i : Nat) := (s.shortStrokeWalk i).strokeByte_dst (byteLane s.acc.shortStroke i)
  simp only [← State.shortStrokeWalk_succ] at hdst
  constructor
  · refine modEq_add_sum_range (pos := fun i => sext13 (s.shortStrokeWalk i).acc.dstMapX) (fun i => ?_) k
    obtain ⟨hx, -⟩ := hdst i
    rw [hx]
    exact sext13_trunc16_modEq _
  · refine modEq_add_sum_range (pos := fun i => sext13 (s.shortStrokeWalk i).acc.dstMapY) (fun i => ?_) k
    obtain ⟨-, hy⟩ := hdst i
    rw [hy]
    exact sext13_trunc16_modEq _

/-- Settles O53: the frame of drawing, and the four displacements summed along the walk. -/
theorem shortStrokesEndAtSum : Obligations.ShortStrokesEndAtSum := by
  intro s
  obtain ⟨hframe, -⟩ := State.drawsLaw_shortStrokes s
  obtain ⟨hx, hy⟩ := s.shortStrokeWalk_dst 4
  simp only [← State.shortStrokes_eq, Finset.sum_range_succ, Finset.sum_range_zero, Int.zero_add, ← Int.add_assoc]
    at hx hy
  exact ⟨hframe, Int.emod_eq_zero_of_dvd hx.symm.dvd, Int.emod_eq_zero_of_dvd hy.symm.dvd⟩

end Sys2Proof.Machine
end

section
/-! The registers one by one (R252 to R256, R259): a write that covers a register leaves the value in it, truncated, and
runs the register's trigger; a read of it answers its bytes. -/

-- Theorem bodies in sequence: many waiting at once would each hold a thread of the compile.
set_option Elab.async false

namespace Sys2Proof.Machine

/-! ## Storing into a register -/

theorem MapBank.set_get_self (m : MapBank) (i : BitVec 2) : MapBank.set m i (MapBank.get m i) = m := by
  obtain ⟨⟨k, hk⟩⟩ := i
  interval_cases k <;> rfl

theorem MapBank.set_set_same (m : MapBank) (i : BitVec 2) (d d' : MapDesc) :
    MapBank.set (MapBank.set m i d) i d' = MapBank.set m i d' := by
  obtain ⟨⟨k, hk⟩⟩ := i
  interval_cases k <;> rfl

/-- Only the bits that a register has are stored (R10, R255). -/
theorem accSet_congr (a : Accel) {r : AccReg} {v w : Word} (h : ∀ i < accWidth r, v.getLsbD i = w.getLsbD i) :
    accSet a r v = accSet a r w := by
  have hbits : v.setWidth (accWidth r) = w.setWidth (accWidth r) :=
    BitVec.eq_of_getLsbD_eq fun i hi => by simp only [BitVec.getLsbD_setWidth, h i hi]
  cases r with
  | _ =>
    simp only [accWidth, BitVec.setWidth_eq] at hbits
    simp only [accSet, hbits]

theorem setWidth_word_setWidth {n : Nat} (hn : n ≤ 32) (x : BitVec n) : (x.setWidth 32).setWidth n = x := by
  rw [BitVec.setWidth_setWidth_of_le _ hn, BitVec.setWidth_eq]

/-- What a register holds, stored into it again, changes nothing. -/
theorem accSet_accGet_self (a : Accel) (r : AccReg) : accSet a r (accGet a r) = a := by
  have hdesc := congrArg (fun m => { a with maps := m }) (MapBank.set_get_self a.maps a.pxMapIdx)
  cases r with
  | mapBase => exact hdesc
  | mapWidth | mapHeight | mapFormat => rw [accGet, accSet, setWidth_word_setWidth (by decide)]; exact hdesc
  | shortStroke | colorCmp | planeMask | frgdColor | bkgdColor | command => rfl
  | _ => rw [accGet, accSet, setWidth_word_setWidth (by decide)]

/-- The second of two writes of a register decides. -/
theorem accSet_accSet_same (a : Accel) (r : AccReg) (v w : Word) : accSet (accSet a r v) r w = accSet a r w := by
  cases r with
  | mapBase | mapWidth | mapHeight | mapFormat => simp only [accSet, MapBank.get_set_same, MapBank.set_set_same]
  | _ => rfl

theorem getLsbD_accGet_accSet (a : Accel) {r : AccReg} (v : Word) {i : Nat} (hi : i < accWidth r) :
    (accGet (accSet a r v) r).getLsbD i = v.getLsbD i := by
  have hword := hi.trans_le (accWidth_le r)
  rw [accGet_accSet_same, BitVec.getLsbD_and, BitVec.getLsbD_ofNat, Nat.testBit_two_pow_sub_one, decide_eq_true hi,
    decide_eq_true hword, Bool.true_and, Bool.and_true]

/-! ## A write that covers a register -/

/-- Every lane of a register stands at its place in the default map (D20). -/
theorem accLane_accelRegMap : ∀ e ∈ Config.accelRegMap, ∀ k < e.bytes,
    accLane Config.accelRegMap (e.off + k) = some (e.reg, k) := by
  decide

/-- Bytes merged into the lanes of one register store the word that they make with what it held (R113, R253). -/
theorem accMerge_register {e : AccEntry} (he : e ∈ Config.accelRegMap) (a : Accel) {lane : Nat} {bs : List Byte}
    (hfit : lane + bs.length ≤ e.bytes) :
    accMerge Config.accelRegMap a (e.off + lane) bs = accSet a e.reg (mergeLanes (accGet a e.reg) lane bs) := by
  induction bs generalizing a lane with
  | nil => exact (accSet_accGet_self a e.reg).symm
  | cons b bs ih =>
    rw [List.length_cons] at hfit
    rw [accMerge, accWriteByte_of_some (accLane_accelRegMap e he lane (by omega)), Nat.add_assoc, ih _ (by omega),
      accSet_accSet_same, mergeLanes]
    refine accSet_congr a fun i hi => ?_
    have hword := hi.trans_le (accWidth_le e.reg)
    rw [getLsbD_mergeLanes _ _ _ hword, getLsbD_mergeLanes _ _ _ hword, getLsbD_accGet_accSet a _ hi]

/-- A register of the default map has no more bits than its lanes. -/
theorem accWidth_le_lanes : ∀ e ∈ Config.accelRegMap, accWidth e.reg ≤ 8 * e.bytes := by
  decide

theorem accMerge_wholeRegister {e : AccEntry} (he : e ∈ Config.accelRegMap) (a : Accel) (v : Word) :
    accMerge Config.accelRegMap a e.off (bytesOf v e.bytes) = accSet a e.reg v := by
  have hmerge := accMerge_register he a (lane := 0) (bs := bytesOf v e.bytes) (by rw [length_bytesOf, Nat.zero_add])
  refine hmerge.trans (accSet_congr a fun i hi => ?_)
  have hlanes := accWidth_le_lanes e he
  rw [getLsbD_mergeLanes_bytesOf _ _ _ _ (hi.trans_le (accWidth_le e.reg)), if_pos (by omega), Nat.mul_zero,
    Nat.sub_zero]

/-- The two registers whose last lane triggers are reached by their own whole write alone (R236, R256, D20). -/
theorem touchesLane3_wholeRegister : ∀ e ∈ Config.accelRegMap,
    touchesLane3 Config.accelRegMap .command e.off e.bytes = decide (e.reg = .command) ∧
    touchesLane3 Config.accelRegMap .shortStroke e.off e.bytes = decide (e.reg = .shortStroke) := by
  decide

/-- What a whole write of a register triggers (R236, R256). -/
def State.triggeredBy (s : State) (r : AccReg) : State :=
  if r = .command then s.commandTrigger else if r = .shortStroke then s.shortStrokeTrigger else s

section
variable {s : State} (hmap : s.cfg.accelRegMap = Config.accelRegMap) {e : AccEntry} (he : e ∈ Config.accelRegMap)
  {len : Len} (hlen : len.bytes = e.bytes)
include hmap he hlen

theorem State.wr_wholeRegister (v : Word) :
    s.wr e.off len v = (s.withAcc (accSet s.acc e.reg v)).triggeredBy e.reg := by
  obtain ⟨hcommand, hstroke⟩ := touchesLane3_wholeRegister e he
  rw [State.wr, State.wrBytes_eq, State.commandTriggered, State.merged, length_bytesOf, hmap, hlen, hcommand, hstroke,
    accMerge_wholeRegister he, State.triggeredBy]
  simp only [decide_eq_true_eq]
  by_cases hreg : e.reg = .command
  · rw [if_pos hreg, if_pos hreg, if_neg (by rw [hreg]; decide)]
  · rw [if_neg hreg, if_neg hreg]

theorem State.rd_wholeRegister :
    s.rd e.off len = { s with answer := .data ((bytesOf (accGet s.acc e.reg) len.bytes).map some) } := by
  have hbyte : ∀ k < len.bytes, s.rdByte (e.off + k) = byteLane (accGet s.acc e.reg) k := fun k hk =>
    State.rdByte_of_some (by rw [hmap, accLane_accelRegMap e he k (hlen ▸ hk)])
  rw [State.rd_eq, bytesOf, List.map_map]
  congr 2
  exact List.map_congr_left fun k hk => congrArg some (hbyte k (List.mem_range.1 hk))

end

/-! ## The 27 registers -/

/-- The length of a whole access to a register. -/
def wholeLen (r : AccReg) : Len := if accWidth r ≤ 8 then .b1 else if accWidth r ≤ 16 then .b2 else .b4

/-- A register as a whole field: what is stored is what it holds, and a write stores, then triggers. -/
def wholeField (r : AccReg) (row : RegAccess → Instr) : AccField where
  row := row
  len := wholeLen r
  get s := accGet s.acc r
  set s v := (s.withAcc (accSet s.acc r v)).triggeredBy r

/-- The fields that the spec lists one by one are those of the registers' rows. -/
theorem accFields_eq : accFields = regRows.map fun p => wholeField p.1 p.2 := rfl

/-- The default map has each register, in lanes for a whole access of it (D20). -/
theorem exists_entry_wholeLen : ∀ p ∈ regRows, ∃ e ∈ Config.accelRegMap,
    e.reg = p.1 ∧ (wholeLen p.1).bytes = e.bytes := by
  decide

/-- Settles O18: each field is its register's, each row an access at its place in the map. -/
theorem registersWriteAndReadWhole : Obligations.RegistersWriteAndReadWhole := by
  intro f hf v s hmap
  rw [accFields_eq] at hf
  obtain ⟨⟨r, row⟩, hrow, rfl⟩ := List.mem_map.1 hf
  obtain ⟨e, he, hreg, hlen⟩ := exists_entry_wholeLen _ hrow
  dsimp only at hreg hlen
  subst hreg
  have hoff := offsetOf_accelRegMap e he
  simp only [wholeField]
  rw [exec_regRow hrow, exec_regRow hrow, State.accessRegister, State.accessRegister, hmap, hoff,
    State.wr_wholeRegister hmap he hlen, State.rd_wholeRegister hmap he hlen]
  exact ⟨rfl, rfl⟩

end Sys2Proof.Machine
end

section
/-! The command register's quiet opcodes (R261 to R265): a row stores its command word and dispatches on its opcode, and the
dispatch leaves every opcode but 5 and 8 without effect. -/

namespace Sys2Proof.Machine

theorem State.commandTrigger_of_quiet {s : State} (hline : s.cmd.opcode ≠ 5) (hblit : s.cmd.opcode ≠ 8) :
    s.commandTrigger = s := by
  rw [State.commandTrigger_of_opcode rfl, if_neg hline, if_neg hblit]

/-- The quiet rows are the rows of all the opcodes but the two that draw (R103, R261 to R265). -/
theorem quietRows_eq : quietRows =
    (((List.range 16).map (BitVec.ofNat 4)).filter fun code => decide (code ≠ 5 ∧ code ≠ 8)).map
      fun code => (code, opcodeRow code) := rfl

/-- Settles O22: a row stores its word and then triggers as every opcode's row does, and the trigger has no effect. -/
theorem quietOpcodesChangeNothing : Obligations.QuietOpcodesChangeNothing := by
  intro p hp
  rw [quietRows_eq] at hp
  obtain ⟨code, hcode, rfl⟩ := List.mem_map.1 hp
  obtain ⟨hline, hblit⟩ := of_decide_eq_true (List.mem_filter.1 hcode).2
  have hquiet (s : State) (hop : s.cmd.opcode = code) : s.commandTrigger = s :=
    State.commandTrigger_of_quiet (hop ▸ hline) (hop ▸ hblit)
  refine ⟨fun rest s => ?row, hquiet⟩
  case row =>
    have hop : (s.setCommand (commandWord s.cfg.cmdLayout code rest)).cmd.opcode = code :=
      opcode_commandWord s.cfg.cmdLayout code rest
    rw [exec_opcodeRow, hquiet _ hop, State.setCommand_eq]

end Sys2Proof.Machine
end

section
/-! The memory-mapped window (R349): a read byte by byte, a write by where it starts and whether it reaches the register
block. A write that only straddles the block's start brings at most three bytes into it, too few for a register's last lane,
so it triggers nothing under any map. -/

namespace Sys2Proof.Machine

theorem lenBytes_le (len : Len) : len.bytes ≤ 4 := by
  cases len <;> decide

/-! ## Writes of the register block that trigger nothing -/

@[simp] theorem State.wrBytes_nil (s : State) (off : Nat) : s.wrBytes off [] = s := rfl

/-- A register's last lane has three lanes before it, so the first three offsets of the block hold none (R252). -/
theorem touchesLane3_of_below (m : List AccEntry) (r : AccReg) {off n : Nat} (h : off + n ≤ 3) :
    touchesLane3 m r off n = false := by
  rw [← Bool.not_eq_true, touchesLane3_iff]
  rintro ⟨k, hk, hlane⟩
  obtain ⟨e, -, -, -, hoff⟩ := accLane_eq_some hlane
  omega

theorem State.wrBytes_of_below (s : State) {off : Nat} {bs : List Byte} (h : off + bs.length ≤ 3) :
    s.wrBytes off bs = s.withAcc (accMerge s.cfg.accelRegMap s.acc off bs) := by
  rw [State.wrBytes_eq, State.commandTriggered, touchesLane3_of_below _ _ h, touchesLane3_of_below _ _ h]
  rfl

/-! ## A write of the window, by where it starts (R349) -/

theorem State.windowWrite_of_rom (s : State) {o : Nat} (h : o < 0x1800) (bs : List Byte) :
    s.windowWrite o bs = s.wrBytes 0 (bs.drop (0x1800 - o)) := if_pos h

theorem State.windowWrite_of_block (s : State) {o : Nat} (h : o < 0x80) (bs : List Byte) :
    s.windowWrite (0x1800 + o) bs = s.wrBytes o bs := by
  rw [State.windowWrite, if_neg (by omega), if_pos (by omega), Nat.add_sub_cancel_left]

/-- Bytes that all end before the block, or begin after it, are ignored. -/
theorem State.windowWrite_of_outside (s : State) {o : Nat} {bs : List Byte} (hpos : 0 < bs.length)
    (h : o + bs.length ≤ 0x1800 ∨ 0x1880 ≤ o) : s.windowWrite o bs = s := by
  obtain hbelow | habove := h
  · rw [s.windowWrite_of_rom (by omega), List.drop_eq_nil_of_le (by omega), State.wrBytes_nil]
  · rw [State.windowWrite, if_neg (by omega), if_neg (by omega)]

/-- A straddling write merges the bytes that reach the block, and triggers nothing. -/
theorem State.windowWrite_of_straddling (s : State) {o k : Nat} {bs : List Byte} (hpos : 0 < k) (hstart : o + k = 0x1800)
    (hlen : bs.length ≤ 4) : s.windowWrite o bs = s.withAcc (accMerge s.cfg.accelRegMap s.acc 0 (bs.drop k)) := by
  rw [s.windowWrite_of_rom (by omega), show 0x1800 - o = k by omega,
    State.wrBytes_of_below _ (by rw [List.length_drop]; omega)]

/-! ## Reads -/

theorem State.windowByte_of_rom (s : State) {o : Nat} (h : o < 0x1800) : s.windowByte o = some (s.romByte o) := if_pos h

/-- The stored image as far as it goes, then the free values (log 15). -/
theorem State.romByte_eq (s : State) (o : Nat) :
    s.romByte o = if h : o < s.cfg.rom.length then s.cfg.rom[o] else Config.romByte o := by
  rw [State.romByte]
  split
  · next h => exact List.getD_eq_getElem _ _ h
  · next h => exact List.getD_eq_default _ _ (Nat.le_of_not_lt h)

/-! ## The obligation -/

/-- Settles O31: the window's events are delivered as its reads and writes, and a write goes by where it starts. -/
theorem mappedWindowDispatches : Obligations.MappedWindowDispatches := by
  intro s off len val rest hatt u byteAt
  have hstep (e : HostEvent) (hin : s.inbox = e :: rest) : step s = u.deliver e :=
    step_of_inbox_cons hin (by rw [hatt, Bool.true_or])
  refine ⟨fun hin => ?read, fun hin => ?write, fun hoff => ?mmr, s.romByte_eq⟩
  case read =>
    have hblock : u.rdByte = s.rdByte := rfl
    have hbyte : u.windowByte = byteAt := funext fun o => by rw [State.windowByte, hblock]; rfl
    have hread : step s = .next (u.windowRead off.toNat len.bytes) := hstep _ hin
    rw [hread, State.windowRead, hbyte, State.respond]
  case write =>
    have hwrite : step s = .next (u.windowWrite off.toNat (bytesOf val len.bytes)) := hstep _ hin
    rw [hwrite]
    refine ⟨fun hout => ?_, fun o ho => ?_, fun k hpos _ hstart => ?_⟩
    · rw [State.windowWrite_of_outside u (by rw [length_bytesOf]; exact lenBytes_pos len) (by rwa [length_bytesOf])]
    · rw [ho, State.windowWrite_of_block u o.isLt, exec_wr, State.wr]
    · rw [State.windowWrite_of_straddling u hpos hstart (by rw [length_bytesOf]; exact lenBytes_le len)]
  case mmr =>
    have hread : exec (.mmr off) s = .next { s with answer := .data [s.windowByte off.toNat] } := rfl
    rw [hread, State.windowByte_of_rom s hoff]

end Sys2Proof.Machine
end

section
/-! The threshold actions field by field (R296 to R300), and the blank line that runs them in order (R295). -/

namespace Sys2Proof.Machine

/-! ## The threshold actions -/

theorem State.atSplit_eq (s : State) :
    s.atSplit = s.withRaster { s.raster with
      maback := if s.eff.interlace && s.raster.oddeven then BitVec.ofNat 32 s.rowBytes else 0
      ma := if s.eff.interlace && s.raster.oddeven then BitVec.ofNat 32 s.rowBytes else 0
      sc := 0 } := rfl

/-- Display end changes the dirty counters, the force-redraw counter and `dispon` (R297). -/
theorem State.atDisplayEnd_frame (s : State) :
    s.atDisplayEnd = { s with
      changedvram := s.atDisplayEnd.changedvram
      raster := { s.raster with dispon := false, fullchange := decayCounter s.raster.fullchange } } := rfl

theorem State.memoriesCanonical_atDisplayEnd {s : State} (h : s.memoriesCanonical) :
    s.atDisplayEnd.memoriesCanonical := State.memoriesCanonical_tickStable.atDisplayEnd h

theorem toNat_decayCounter (c : Byte) : (decayCounter c).toNat = c.toNat - 1 := by
  unfold decayCounter
  split
  · next h => rw [h]; rfl
  · next h => bv_omega

/-- Counters that start at most at `n` are 0 after `n` display ends (R297). -/
theorem State.dirty_iter_atDisplayEnd {n : Nat} {s : State} (hc : s.memoriesCanonical)
    (hle : ∀ p, (s.dirty p).toNat ≤ n) (p : Nat) : (iter n State.atDisplayEnd s).dirty p = 0 := by
  induction n generalizing s with
  | zero => exact BitVec.eq_of_toNat_eq (Nat.le_zero.1 (hle p))
  | succ n ih =>
    refine ih (State.memoriesCanonical_atDisplayEnd hc) fun q => ?_
    obtain ⟨-, -, hwf, -⟩ := hc
    rw [State.atDisplayEnd_dirty hwf, toNat_decayCounter]
    have := hle q
    omega

/-- Settles O60: each action is the update that the spec lists, and the decay of a counter is at most a step down. -/
theorem thresholdActions : Obligations.ThresholdActions := by
  intro s hc
  obtain ⟨-, -, hwf, -⟩ := id hc
  exact ⟨s.atSplit_eq, s.atDisplayEnd_frame, fun p => State.atDisplayEnd_dirty hwf p,
    fun _ hle p => State.dirty_iter_atDisplayEnd hc hle p, rfl, rfl⟩

/-! ## The blank line -/

theorem State.tick_of_blank {s : State} (hon : s.flags.on = true) (hpos : s.raster.linepos = true) :
    s.tick = s.enterBlankLine := by
  rw [State.tick, hon, hpos]
  rfl

/-- Where the vertical counter stands and what it is compared with: what the four tests look at (R295). -/
structure State.TestsAs (s : State) (vc : BitVec 11) (e : Eff) : Prop where
  counter : s.raster.vc = vc
  timing : s.eff = e

section
variable {s : State} {vc : BitVec 11} {e : Eff} (h : s.TestsAs vc e)
include h

theorem State.TestsAs.testSplit : s.testSplit = if vc.toNat = e.split then s.atSplit else s := by
  rw [State.testSplit, State.atThreshold, h.counter, h.timing]

theorem State.TestsAs.testDisplayEnd : s.testDisplayEnd = if vc.toNat = e.dispend then s.atDisplayEnd else s := by
  rw [State.testDisplayEnd, State.atThreshold, h.counter, h.timing]

theorem State.TestsAs.testVsync : s.testVsync = if vc.toNat = e.vSyncstart then s.atVsync else s := by
  rw [State.testVsync, State.atThreshold, h.counter, h.timing]

theorem State.TestsAs.testTotal : s.testTotal = if vc.toNat = e.vTotal then s.atTotal else s := by
  rw [State.testTotal, State.atThreshold, h.counter, h.timing]

/-- An action that moves neither the counter nor the timing leaves what the next tests look at. -/
theorem State.TestsAs.ite {c : Prop} [Decidable c] {act : State → State} (hact : (act s).TestsAs s.raster.vc s.eff) :
    State.TestsAs (if c then act s else s) vc e := by
  split
  · rw [← h.counter, ← h.timing]; exact hact
  · exact h

/-- The four tests in order, each against the same counter: only the last action restarts it. -/
theorem State.TestsAs.thresholds :
    s.testSplit.testDisplayEnd.testVsync.testTotal =
      let u := if vc.toNat = e.split then s.atSplit else s
      let v := if vc.toNat = e.dispend then u.atDisplayEnd else u
      let w := if vc.toNat = e.vSyncstart then v.atVsync else v
      if vc.toNat = e.vTotal then w.atTotal else w := by
  have hsplit := h.ite (c := vc.toNat = e.split) (act := State.atSplit) ⟨rfl, rfl⟩
  have hdispend := hsplit.ite (c := vc.toNat = e.dispend) (act := State.atDisplayEnd) ⟨rfl, rfl⟩
  have hvsync := hdispend.ite (c := vc.toNat = e.vSyncstart) (act := State.atVsync) ⟨rfl, rfl⟩
  rw [h.testSplit, hsplit.testDisplayEnd, hdispend.testVsync, hvsync.testTotal]

end

/-- Whether a blank line ends the current row of a displayed line (R295). -/
def State.rowDone (s : State) : Bool := s.raster.dispon && decide (s.raster.sc.toNat = s.eff.rowcount)

/-- The line address of the row that follows (R295). -/
def State.rowBack (s : State) : Word :=
  if s.rowDone then s.maskAddr (s.raster.maback.toNat + s.rowBytes * s.lineStep) else s.raster.maback

theorem State.advanceRow_eq (s : State) :
    s.advanceRow = s.withRaster { s.raster with
      sc := if s.rowDone then 0 else if s.raster.dispon then s.raster.sc + 1 else s.raster.sc
      maback := s.rowBack
      ma := if s.raster.dispon then s.rowBack else s.raster.ma } := by
  cases hdisp : s.raster.dispon with
  | false =>
    have hdone : s.rowDone = false := by rw [State.rowDone, hdisp, Bool.false_and]
    simp only [State.advanceRow, State.rowBack, hdone, hdisp, Bool.false_eq_true, if_false]
    rw [← hdisp]
    rfl
  | true =>
    have hdone : s.rowDone = decide (s.raster.sc.toNat = s.eff.rowcount) := by rw [State.rowDone, hdisp, Bool.true_and]
    by_cases hrow : s.raster.sc.toNat = s.eff.rowcount
    · simp [State.advanceRow, State.rowBack, hdone, hdisp, hrow]
    · simp [State.advanceRow, State.rowBack, hdone, hdisp, hrow]

/-- Settles O59: the row is advanced, then the counter, and the four tests look at the advanced counter. -/
theorem blankLineRunsThresholdsInOrder : Obligations.BlankLineRunsThresholdsInOrder := by
  intro s hon hpos r size rowBytes rowDone back vc row atVc
  have hrow : (s.setLinepos false).advanceRow.advanceVc = row := by
    rw [State.advanceRow_eq]
    rfl
  have htests : row.TestsAs vc s.eff := ⟨rfl, rfl⟩
  rw [exec_tick, State.tick_of_blank hon hpos, State.enterBlankLine, hrow, htests.thresholds]

end Sys2Proof.Machine
end

section
/-! The cursor compositor (R321 to R326): what each sprite column leaves in the frame buffer, and the row as a whole. -/

namespace Sys2Proof.Machine

/-! ## One pixel code -/

theorem toNat_spriteCode (dat : Byte) (i : Nat) : (spriteCode dat i).toNat = dat.toNat / 4 ^ (i % 4) % 4 := by
  rw [spriteCode, BitVec.toNat_setWidth, BitVec.toNat_ushiftRight, Nat.shiftRight_eq_div_pow, Nat.pow_mul]

/-- What a pixel code makes of an output pixel (R324). -/
def State.cursorOver (s : State) (code : Nat) (old : Pixel) : Pixel :=
  if code = 0 then s.ext.hwcColor0.toNat % 2 ^ s.cfg.outBits
  else if code = 1 then s.ext.hwcColor1.toNat % 2 ^ s.cfg.outBits
  else if code = 2 then old
  else (old ^^^ (2 ^ s.cfg.outBits - 1)) % 2 ^ s.cfg.outBits

theorem State.fbRead_cursorPixel (s : State) (line k : Half) (x y : Nat) (code : BitVec 2) :
    (s.cursorPixel line x code).fbRead k y =
      if k = line ∧ y = x then s.cursorOver code.toNat (s.fbRead line x) else s.fbRead k y := by
  unfold State.cursorPixel State.cursorOver
  split
  · next h => rw [State.fbRead_fbWrite, h]; rfl
  · next h => rw [State.fbRead_fbWrite, h]; rfl
  · next h =>
    rw [h]
    split
    · next hat => obtain ⟨rfl, rfl⟩ := hat; rfl
    · rfl
  · next h0 h1 h2 => rw [State.fbRead_fbWrite, if_neg h0, if_neg h1, if_neg h2]; rfl

/-! ## One column -/

/-- Whether sprite column `i` is drawn at output column `x` (R321, R322, R326). -/
def State.cursorCovers (s : State) (i x : Nat) : Prop :=
  s.cursorSkip ≤ i ∧ x < s.eff.hDisp ∧ (x : Int) = s.cursorX0 + i

/-- The code of sprite column `i` in the row at the read pointer (R323). -/
def State.rowCode (s : State) (i : Nat) : Nat := (spriteCode (s.spriteByte (s.raster.latch.addr.toNat + i / 4)) i).toNat

open Classical in
theorem State.fbRead_cursorColumn (s : State) (line k : Half) (i x : Nat) :
    (s.cursorColumn line s.raster.latch.addr.toNat i).fbRead k x =
      if k = line ∧ s.cursorCovers i x then s.cursorOver (s.rowCode i) (s.fbRead line x) else s.fbRead k x := by
  unfold State.cursorColumn State.cursorCovers
  dsimp only
  split
  · next hskip => rw [if_neg (by omega)]
  · next hskip =>
    split
    · next hcol =>
      rw [State.fbRead_cursorPixel]
      by_cases hat : x = (s.cursorX0 + (i : Int)).toNat
      · have hcov : s.cursorSkip ≤ i ∧ x < s.eff.hDisp ∧ (x : Int) = s.cursorX0 + i := by omega
        simp only [← hat, hcov, and_true]
        rfl
      · rw [if_neg (fun ⟨_, hx⟩ => hat hx), if_neg (by omega)]
    · next hcol => rw [if_neg (by omega)]

/-! ## The row -/

/-- The first `n` columns of the row at the read pointer (R321). -/
def State.cursorWalk (s : State) (line : Half) (n : Nat) : State :=
  (List.range n).foldl (fun t i => t.cursorColumn line s.raster.latch.addr.toNat i) s

theorem State.cursorWalk_succ (s : State) (line : Half) (n : Nat) :
    s.cursorWalk line (n + 1) = (s.cursorWalk line n).cursorColumn line s.raster.latch.addr.toNat n := by
  rw [State.cursorWalk, List.range_succ, List.foldl_append]
  rfl

theorem State.sameButPixels_cursorWalk (s : State) (line : Half) (n : Nat) : s.sameButPixels (s.cursorWalk line n) :=
  State.sameButPixels_foldl _ _ (fun t i => t.sameButPixels_cursorColumn line _ i) s

theorem State.sameButPixels.cfg {s t : State} (h : s.sameButPixels t) : t.cfg = s.cfg := by
  unfold State.sameButPixels at h
  rw [h]

/-- A change of output pixels alone leaves what the compositor looks at besides them. -/
theorem State.sameButPixels.cursorView {s t : State} (h : s.sameButPixels t) :
    t.raster = s.raster ∧ t.rowCode = s.rowCode ∧ t.cursorCovers = s.cursorCovers ∧ t.cursorOver = s.cursorOver := by
  unfold State.sameButPixels at h
  rw [h]
  exact ⟨rfl, rfl, rfl, rfl⟩

/-- The only sprite column that can be drawn at output column `x` (R326). -/
def State.cursorColumnAt (s : State) (x : Nat) : Nat := ((x : Int) - s.cursorX0).toNat

theorem State.cursorCovers_iff (s : State) (i x : Nat) :
    s.cursorCovers i x ↔ s.cursorCovers (s.cursorColumnAt x) x ∧ i = s.cursorColumnAt x := by
  unfold State.cursorCovers State.cursorColumnAt
  omega

open Classical in
/-- A column is drawn once: it takes its own code over the pixel that was there before the row. -/
theorem State.fbRead_cursorWalk (s : State) (line k : Half) (n x : Nat) :
    (s.cursorWalk line n).fbRead k x =
      if k = line ∧ s.cursorCovers (s.cursorColumnAt x) x ∧ s.cursorColumnAt x < n then
        s.cursorOver (s.rowCode (s.cursorColumnAt x)) (s.fbRead line x)
      else s.fbRead k x := by
  induction n generalizing k with
  | zero => rw [if_neg (by omega)]; rfl
  | succ n ih =>
    obtain ⟨hraster, hcode, hcovers, hover⟩ := (s.sameButPixels_cursorWalk line n).cursorView
    rw [State.cursorWalk_succ, ← hraster, State.fbRead_cursorColumn, hcode, hcovers, hover, s.cursorCovers_iff n x]
    by_cases hat : k = line ∧ s.cursorCovers (s.cursorColumnAt x) x
    · obtain ⟨rfl, hcov⟩ := hat
      rcases Nat.lt_trichotomy (s.cursorColumnAt x) n with hlt | heq | hgt
      · rw [if_neg (by omega), ih, if_pos ⟨rfl, hcov, hlt⟩, if_pos ⟨rfl, hcov, by omega⟩]
      · rw [if_pos ⟨rfl, hcov, heq.symm⟩, ih, if_neg (by omega), if_pos ⟨rfl, hcov, by omega⟩, heq]
      · rw [if_neg (by omega), ih, if_neg (by omega), if_neg (by omega)]
    · have hnot (c : Prop) : ¬ (k = line ∧ s.cursorCovers (s.cursorColumnAt x) x ∧ c) :=
        fun ⟨hk, hcov, _⟩ => hat ⟨hk, hcov⟩
      rw [if_neg (hnot _), ih, if_neg (hnot _), if_neg (hnot _)]

theorem State.cursorNextAddr_eq (s : State) :
    s.cursorNextAddr = s.raster.latch.addr + 16 + if s.eff.interlace then 16 else 0 := by
  unfold State.cursorNextAddr
  refine BitVec.eq_of_toNat_eq ?_
  split <;> simp [BitVec.toNat_add]

theorem State.cursorColumns_eq (s : State) (line : Half) : s.cursorColumns line = s.cursorWalk line 64 := by
  rw [State.cursorColumns, State.cursorWalk]

theorem State.cursorDraw_fb (s : State) (line : Half) : (s.cursorDraw line).fb = (s.cursorColumns line).fb := by
  rw [State.cursorDraw, State.cursorAdvance, State.withRaster_fb]

/-- What a row of the cursor leaves: output pixels, and the read pointer one row on, two when interlaced (R325). -/
theorem State.cursorDraw_eq (s : State) (line : Half) :
    s.cursorDraw line = { s with
      fb := (s.cursorDraw line).fb
      raster := { s.raster with latch := { s.raster.latch with
        addr := s.raster.latch.addr + 16 + if s.eff.interlace then 16 else 0 } } } := by
  have hpixels := s.sameButPixels_cursorColumns line
  unfold State.sameButPixels at hpixels
  rw [State.cursorDraw_fb, State.cursorDraw, hpixels, ← State.cursorNextAddr_eq]
  generalize (s.cursorColumns line).fb = pixels
  rfl

theorem State.cursorDraw_cfg (s : State) (line : Half) : (s.cursorDraw line).cfg = s.cfg := by
  rw [State.cursorDraw_eq]

/-- An output pixel depends on the buffer and on the width of a pixel. -/
theorem State.fbRead_congr {s t : State} (hfb : t.fb = s.fb) (hcfg : t.cfg = s.cfg) (k : Half) (x : Nat) :
    t.fbRead k x = s.fbRead k x := by
  rw [State.fbRead, State.fbRead, hfb, hcfg]

theorem State.fbRead_cursorDraw (s : State) (line k : Half) (x : Nat) :
    (s.cursorDraw line).fbRead k x = (s.cursorWalk line 64).fbRead k x :=
  State.fbRead_congr (by rw [State.cursorDraw_fb, State.cursorColumns_eq])
    (by rw [State.cursorDraw_cfg, (s.sameButPixels_cursorWalk line 64).cfg]) k x

/-- Settles O57: a covered column takes the code of the one sprite column that falls on it. -/
theorem cursorCompositesSpriteRow : Obligations.CursorCompositesSpriteRow := by
  intro s line l x0 skip code t
  have hskip : skip = s.cursorSkip := by
    show (if s.flags.cursorDataOn then (0 : Int) else 32) = ((if s.flags.cursorDataOn then 0 else 32 : Nat) : Int)
    split <;> rfl
  have hcovers (x : Nat) : s.cursorCovers (s.cursorColumnAt x) x ∧ s.cursorColumnAt x < 64 ↔
      x < s.eff.hDisp ∧ skip ≤ x - x0 ∧ x - x0 < 64 := by
    have hx0 : s.cursorX0 = x0 := rfl
    rw [hskip, State.cursorCovers, State.cursorColumnAt, hx0]
    omega
  refine ⟨fun x hx hlo hhi => ?covered, fun k x hout => ?uncovered, s.cursorDraw_eq line⟩
  case covered =>
    have hcode : s.rowCode (s.cursorColumnAt x) = code x := toNat_spriteCode _ _
    rw [State.fbRead_cursorDraw, State.fbRead_cursorWalk, if_pos ⟨rfl, (hcovers x).2 ⟨hx, hlo, hhi⟩⟩, hcode]
    rfl
  case uncovered =>
    have hnot : ¬ (k = line ∧ s.cursorCovers (s.cursorColumnAt x) x ∧ s.cursorColumnAt x < 64) := by
      rintro ⟨hk, hc⟩
      obtain ⟨hx, hlo, hhi⟩ := (hcovers x).1 hc
      rcases hout with hline | hright | hleft | hbeyond
      · exact hline hk
      all_goals omega
    rw [State.fbRead_cursorDraw, State.fbRead_cursorWalk, if_neg hnot]

end Sys2Proof.Machine
end

section
/-! The displayed active line (R286, R291 to R294), with and without a cursor row on it, and the frame of a tick (R292,
R297). -/

namespace Sys2Proof.Machine

/-! ## The parts of a displayed line -/

/-- The trigger changes the raster state alone (R290). -/
theorem State.cursorTrigger_frame (s : State) : s.cursorTrigger = s.withRaster s.cursorTrigger.raster := by
  by_cases hfirst : s.firstTrigger
  · rw [State.cursorTrigger_of_firstTrigger hfirst]; rfl
  · by_cases hsecond : s.secondTrigger
    · rw [State.cursorTrigger_of_secondTrigger hsecond]; rfl
    · rw [State.cursorTrigger_of_not hfirst hsecond]; rfl

theorem State.cursorTrigger_changeframecount (s : State) :
    s.cursorTrigger.raster.changeframecount = s.raster.changeframecount :=
  State.cursorTrigger_keeps (field := fun t => t.raster.changeframecount) rfl rfl

theorem State.markFirstLine_eq (s : State) :
    s.markFirstLine = { s with
      outputs := if s.raster.firstline = s.cfg.firstlineNone then .waitForBuffer :: s.outputs else s.outputs
      raster := { s.raster with
        firstline :=
          if s.raster.firstline = s.cfg.firstlineNone then s.raster.displine else s.raster.firstline } } := by
  unfold State.markFirstLine
  split <;> rfl

theorem State.markLastLine_eq (s : State) :
    s.markLastLine = s.withRaster { s.raster with
      lastline :=
        if s.raster.lastline.toNat < s.raster.displine.toNat then s.raster.displine else s.raster.lastline } := by
  unfold State.markLastLine
  split <;> rfl

/-! ### The stamp of a cursor line (R291) -/

theorem State.stampPage_frame (s : State) (p : Nat) :
    s.stampPage p = { s with changedvram := (s.stampPage p).changedvram } := by
  unfold State.stampPage
  split <;> rfl

theorem State.stampCursorLine_of_hidden {s : State} (h : s.raster.hwcursorOn = 0) : s.stampCursorLine = s := by
  rw [State.stampCursorLine, h]
  rfl

theorem State.stampCursorLine_of_shown {s : State} (h : s.raster.hwcursorOn ≠ 0) :
    s.stampCursorLine = (s.stampPage s.maPage).stampPage (s.maPage + 1) :=
  if_pos (Nat.pos_of_ne_zero fun hzero => h (BitVec.eq_of_toNat_eq hzero))

theorem State.stampCursorLine_frame (s : State) :
    s.stampCursorLine = { s with changedvram := s.stampCursorLine.changedvram } := by
  unfold State.stampCursorLine
  split
  · rw [(s.stampPage s.maPage).stampPage_frame, s.stampPage_frame]
  · rfl

theorem State.maPage_eq (s : State) : s.maPage = s.raster.ma.toNat / 4096 := shiftRight_pageShift _

theorem guardPage_eq (c : HostConfig) : HostConfig.guardPage c = 2 ^ c.vramLog2.toNat / 4096 :=
  shiftRight_pageShift _

theorem State.dirty_stampCursorLine {s : State} (hc : s.memoriesCanonical) (h : s.raster.hwcursorOn ≠ 0) (p : Nat) :
    s.stampCursorLine.dirty p =
      if (p = s.raster.ma.toNat / 4096 ∨ p = s.raster.ma.toNat / 4096 + 1) ∧ p ≤ 2 ^ s.cfg.vramLog2.toNat / 4096 then
        s.raster.changeframecount
      else s.dirty p := by
  obtain ⟨-, -, hwf, -⟩ := id hc
  obtain ⟨-, -, hwf', -⟩ := State.memoriesCanonical_stampPage s.maPage hc
  have hcfg : (s.stampPage s.maPage).cfg = s.cfg := by rw [State.stampPage_frame]
  rw [State.stampCursorLine_of_shown h, State.stampPage_dirty hwf', State.stampPage_dirty hwf, State.stampPage_raster,
    hcfg, guardPage_eq, State.maPage_eq]
  grind

/-! ### The renderer (R292) -/

theorem State.renderGate_iff (s : State) :
    s.renderGate = true ↔ s.dirty (s.raster.ma.toNat / 4096) ≠ 0 ∨ s.dirty (s.raster.ma.toNat / 4096 + 1) ≠ 0 ∨
      s.raster.fullchange ≠ 0 := by
  rw [State.renderGate, State.maPage_eq, Bool.or_eq_true, Bool.or_eq_true, decide_eq_true_iff, decide_eq_true_iff,
    decide_eq_true_iff, or_assoc]

theorem State.renderLine_of_open {s : State} (h : s.renderGate = true) : s.renderLine = s.markDrawn.renderPixels :=
  if_pos h

theorem State.renderLine_of_shut {s : State} (h : ¬ s.renderGate = true) : s.renderLine = s := if_neg h

/-- The first `n` pixels of the line, written one after another. -/
theorem State.fbRead_foldl_fbWrite (s : State) (line k : Half) (pixel : Nat → Nat) (n x : Nat) :
    ((List.range n).foldl (fun t i => t.fbWrite line i (pixel i)) s).fbRead k x =
      if k = line ∧ x < n then HostConfig.outPixel s.cfg (pixel x) else s.fbRead k x := by
  induction n with
  | zero => rw [if_neg (by omega)]; rfl
  | succ n ih =>
    have hcfg := (s.sameButPixels_foldl (List.range n) (fun t i => t.fbWrite line i (pixel i))
      fun t i => t.sameButPixels_fbWrite line i (pixel i)).cfg
    rw [List.range_succ, List.foldl_append]
    refine (State.fbRead_fbWrite _ line k n x (pixel n)).trans ?_
    rw [ih, hcfg]
    by_cases hx : x = n
    · subst hx
      simp
    · simp only [hx, and_false, if_false, show x < n + 1 ↔ x < n by omega]

theorem State.fbRead_renderLine_of_open {s : State} (h : s.renderGate = true) (k : Half) (x : Nat) :
    s.renderLine.fbRead k x =
      if k = s.raster.displine ∧ x < s.eff.hDisp then s.renderPixel x % 2 ^ s.cfg.outBits else s.fbRead k x := by
  rw [State.renderLine_of_open h]
  exact State.fbRead_foldl_fbWrite s.markDrawn _ k s.markDrawn.renderPixel _ x

/-- What the renderer leaves besides output pixels: the draw markers, where the gate is open. -/
theorem State.renderLine_raster (s : State) :
    s.renderLine.raster =
      if s.renderGate then { s.raster with
        firstlineDraw :=
          if s.raster.firstlineDraw = s.cfg.firstlineNone then s.raster.displine else s.raster.firstlineDraw
        lastlineDraw := s.raster.displine }
      else s.raster := by
  by_cases h : s.renderGate = true
  · rw [State.renderLine_of_open h, State.renderPixels_raster, if_pos h]; rfl
  · rw [State.renderLine_of_shut h, if_neg h]

/-- The renderer changes output pixels and the draw markers (R292). -/
theorem State.renderLine_frame (s : State) :
    s.renderLine = { s with
      fb := s.renderLine.fb
      raster := { s.raster with
        firstlineDraw := s.renderLine.raster.firstlineDraw
        lastlineDraw := s.renderLine.raster.lastlineDraw } } := by
  by_cases h : s.renderGate = true
  · have hpixels := s.markDrawn.sameButPixels_renderPixels
    unfold State.sameButPixels at hpixels
    rw [State.renderLine_of_open h, hpixels]
    rfl
  · rw [State.renderLine_of_shut h]

/-! ### The cursor on a line (R286) -/

theorem State.drawCursorLine_of_hidden {s : State} (h : s.raster.hwcursorOn = 0) : s.drawCursorLine = s := by
  rw [State.drawCursorLine, h]
  rfl

theorem State.drawCursorLine_of_shown {s : State} (h : s.raster.hwcursorOn ≠ 0) :
    s.drawCursorLine = { s with
      fb := (s.cursorDraw s.raster.displine).fb
      raster := { s.raster with
        hwcursorOn := BitVec.ofNat 7 (s.raster.hwcursorOn.toNat - s.lineStep)
        latch := { s.raster.latch with
          addr := s.raster.latch.addr + 16 + if s.eff.interlace then 16 else 0 } } } := by
  have hpos : 0 < s.raster.hwcursorOn.toNat := Nat.pos_of_ne_zero fun hzero => h (BitVec.eq_of_toNat_eq hzero)
  rw [State.drawCursorLine, if_pos hpos, State.cursorDraw_eq]
  rfl

/-- What the compositor looks at, and the output pixels it writes (R321 to R326). -/
structure State.SameSprite (s t : State) : Prop where
  cfg : t.cfg = s.cfg
  generation : t.generation = s.generation
  sprite : t.spriteData = s.spriteData
  ext : t.ext = s.ext
  flags : t.flags = s.flags
  eff : t.eff = s.eff
  latch : t.raster.latch = s.raster.latch
  fb : t.fb = s.fb

theorem State.SameSprite.fbWrite {s t : State} (h : s.SameSprite t) (l : Half) (x v : Nat) :
    (s.fbWrite l x v).SameSprite (t.fbWrite l x v) :=
  { h with fb := by rw [State.fbWrite_fb, State.fbWrite_fb, h.fb, h.cfg] }

theorem State.SameSprite.cursorPixel {s t : State} (h : s.SameSprite t) (l : Half) (x : Nat) (code : BitVec 2) :
    (s.cursorPixel l x code).SameSprite (t.cursorPixel l x code) := by
  unfold State.cursorPixel
  rw [h.ext, h.cfg, State.fbRead_congr h.fb h.cfg]
  split
  · exact h.fbWrite _ _ _
  · exact h.fbWrite _ _ _
  · exact h
  · exact h.fbWrite _ _ _

theorem State.SameSprite.cursorColumn {s t : State} (h : s.SameSprite t) (l : Half) (a i : Nat) :
    (s.cursorColumn l a i).SameSprite (t.cursorColumn l a i) := by
  have hx0 : t.cursorX0 = s.cursorX0 := by rw [State.cursorX0, State.cursorX0, h.latch]
  have hskip : t.cursorSkip = s.cursorSkip := by rw [State.cursorSkip, State.cursorSkip, h.flags]
  have hbyte (b : Nat) : t.spriteByte b = s.spriteByte b := by
    rw [State.spriteByte, State.spriteByte, State.spriteAt, State.spriteAt, h.sprite, h.generation]
  unfold State.cursorColumn
  rw [hx0, hskip, h.eff, hbyte]
  dsimp only
  split
  · exact h
  · split
    · exact h.cursorPixel _ _ _
    · exact h

theorem State.SameSprite.cursorWalk {s t : State} (h : s.SameSprite t) (l : Half) (n : Nat) :
    (s.cursorWalk l n).SameSprite (t.cursorWalk l n) := by
  induction n with
  | zero => exact h
  | succ n ih =>
    rw [State.cursorWalk_succ, State.cursorWalk_succ, h.latch]
    exact ih.cursorColumn _ _ _

theorem State.SameSprite.cursorDraw_fb {s t : State} (h : s.SameSprite t) (l : Half) :
    (t.cursorDraw l).fb = (s.cursorDraw l).fb := by
  rw [State.cursorDraw_fb, State.cursorDraw_fb, State.cursorColumns_eq, State.cursorColumns_eq]
  exact (h.cursorWalk l 64).fb

/-! ## The displayed line -/

/-- What the renderer of a displayed line looks at: the trigger has run, the line is entered, its first-line mark and
its stamp are made (R286, R290, R291). -/
def State.lineStamped (s : State) : State := (s.cursorTrigger.setLinepos true).markFirstLine.stampCursorLine

/-- The raster state that the renderer looks at (R286). -/
def State.lineRaster (s : State) : Raster :=
  { s.cursorTrigger.raster with
    linepos := true
    firstline :=
      if s.cursorTrigger.raster.firstline = s.cfg.firstlineNone then s.cursorTrigger.raster.displine
      else s.cursorTrigger.raster.firstline }

theorem State.markFirstLine_entered (s : State) :
    (s.cursorTrigger.setLinepos true).markFirstLine = { s with
      outputs :=
        if s.cursorTrigger.raster.firstline = s.cfg.firstlineNone then .waitForBuffer :: s.outputs else s.outputs
      raster := s.lineRaster } := by
  rw [State.markFirstLine_eq, State.lineRaster]
  generalize hr : s.cursorTrigger.raster = r
  rw [s.cursorTrigger_frame, hr]
  rfl

theorem State.lineStamped_eq (s : State) :
    s.lineStamped = { s with
      changedvram := s.lineStamped.changedvram
      outputs :=
        if s.cursorTrigger.raster.firstline = s.cfg.firstlineNone then .waitForBuffer :: s.outputs else s.outputs
      raster := s.lineRaster } := by
  unfold State.lineStamped
  rw [State.stampCursorLine_frame, State.markFirstLine_entered]

theorem State.lineStamped_changedvram_of_hidden {s : State} (h : s.cursorTrigger.raster.hwcursorOn = 0) :
    s.lineStamped.changedvram = s.changedvram := by
  have hhidden : State.stampCursorLine _ = _ :=
    State.stampCursorLine_of_hidden (s := (s.cursorTrigger.setLinepos true).markFirstLine)
      (by rw [State.markFirstLine_entered]; exact h)
  rw [State.lineStamped, hhidden, State.markFirstLine_entered]

theorem State.dirty_lineStamped {s : State} (hc : s.memoriesCanonical) (h : s.cursorTrigger.raster.hwcursorOn ≠ 0)
    (p : Nat) :
    s.lineStamped.dirty p =
      if (p = s.cursorTrigger.raster.ma.toNat / 4096 ∨ p = s.cursorTrigger.raster.ma.toNat / 4096 + 1) ∧
          p ≤ 2 ^ s.cfg.vramLog2.toNat / 4096 then
        s.cursorTrigger.raster.changeframecount
      else s.dirty p := by
  unfold State.lineStamped
  rw [State.markFirstLine_entered]
  exact State.dirty_stampCursorLine (s := { s with outputs := _, raster := s.lineRaster }) hc h p

theorem State.enterActiveLine_of_dispon {s : State} (h : s.raster.dispon = true) :
    s.enterActiveLine = s.lineStamped.renderLine.advanceMa.drawCursorLine.markLastLine.advanceDispline := by
  have hdispon : (s.cursorTrigger.setLinepos true).raster.dispon = true := s.cursorTrigger_dispon.trans h
  have hon : (s.cursorTrigger.setLinepos true).displayIfOn = (s.cursorTrigger.setLinepos true).displayLine :=
    if_pos hdispon
  rw [State.enterActiveLine, hon]
  rfl

theorem State.tick_of_dispon {s : State} (hon : s.flags.on = true) (hpos : s.raster.linepos = false)
    (hdisp : s.raster.dispon = true) :
    s.tick = s.lineStamped.renderLine.advanceMa.drawCursorLine.markLastLine.advanceDispline := by
  rw [State.tick_of_active hon hpos, State.enterActiveLine_of_dispon hdisp]

/-! ## What a displayed line leaves -/

/-- The pixel that a displayed line takes at column `i` (R292): what the renderer makes of the line it looks at. -/
theorem State.renderPixel_lineStamped (s : State) (i : Nat) :
    s.lineStamped.renderPixel i =
      let ma := s.cursorTrigger.raster.ma.toNat
      let byteAt : Nat → Byte := fun a => s.vramAt (a % 2 ^ s.cfg.vramLog2.toNat)
      if s.eff.bpp16 then Config.rgb565 s.cfg.outBits (byteAt (ma + 2 * i + 1) ++ byteAt (ma + 2 * i))
      else Config.pal s.cfg.outBits (byteAt (ma + i)) (s.paletteAt (byteAt (ma + i)).toNat) := by
  rw [State.lineStamped_eq]
  rfl

theorem State.fbRead_lineRendered {s : State} (h : s.lineStamped.renderGate = true) (k : Half) (x : Nat) :
    s.lineStamped.renderLine.fbRead k x =
      if k = s.cursorTrigger.raster.displine ∧ x < s.eff.hDisp then
        s.lineStamped.renderPixel x % 2 ^ s.cfg.outBits
      else s.fbRead k x := by
  have hframe := s.lineStamped_eq
  have hline : s.lineStamped.raster.displine = s.cursorTrigger.raster.displine := by rw [hframe]; rfl
  have hwidth : s.lineStamped.eff.hDisp = s.eff.hDisp := by rw [hframe]
  have hcfg : s.lineStamped.cfg = s.cfg := by rw [hframe]
  have hfb : s.lineStamped.fb = s.fb := by rw [hframe]
  rw [State.fbRead_renderLine_of_open h, hline, hwidth, hcfg, State.fbRead_congr hfb hcfg]

/-- The draw markers of a rendered line, and of one whose gate is shut (R292). -/
theorem State.lineRendered_markers (s : State) :
    let r := s.cursorTrigger.raster
    let t := s.lineStamped.renderLine
    (s.lineStamped.renderGate = true → t.raster.lastlineDraw = r.displine ∧
      t.raster.firstlineDraw = if r.firstlineDraw = s.cfg.firstlineNone then r.displine else r.firstlineDraw) ∧
    (¬ s.lineStamped.renderGate = true →
      t.raster.lastlineDraw = r.lastlineDraw ∧ t.raster.firstlineDraw = r.firstlineDraw) := by
  intro r t
  have hraster : s.lineStamped.raster = s.lineRaster := by rw [s.lineStamped_eq]
  have hcfg : s.lineStamped.cfg = s.cfg := by rw [s.lineStamped_eq]
  have ht := s.lineStamped.renderLine_raster
  rw [hraster, hcfg] at ht
  refine ⟨fun hopen => ?_, fun hshut => ?_⟩
  · rw [if_pos hopen] at ht
    rw [show t.raster = _ from ht]
    exact ⟨rfl, rfl⟩
  · rw [if_neg hshut] at ht
    rw [show t.raster = _ from ht]
    exact ⟨rfl, rfl⟩

theorem State.lineRendered_eq (s : State) :
    s.lineStamped.renderLine = { s with
      fb := s.lineStamped.renderLine.fb
      changedvram := s.lineStamped.changedvram
      outputs :=
        if s.cursorTrigger.raster.firstline = s.cfg.firstlineNone then .waitForBuffer :: s.outputs else s.outputs
      raster := { s.lineRaster with
        firstlineDraw := s.lineStamped.renderLine.raster.firstlineDraw
        lastlineDraw := s.lineStamped.renderLine.raster.lastlineDraw } } := by
  generalize hcalls : (if s.cursorTrigger.raster.firstline = s.cfg.firstlineNone then
    Output.waitForBuffer :: s.outputs else s.outputs) = calls
  have hframe := s.lineStamped_eq
  rw [hcalls] at hframe
  calc s.lineStamped.renderLine = _ := s.lineStamped.renderLine_frame
    _ = _ := by
      generalize s.lineStamped.renderLine = t
      rw [hframe]

/-- The counters at the end of a displayed line without a cursor on it (R286, R293, R294). -/
theorem State.lineEnd_eq (t : State) :
    t.advanceMa.markLastLine.advanceDispline = { t with
      raster := { t.raster with
        ma := t.maskAddr (t.raster.ma.toNat + t.eff.hDisp * if t.eff.bpp16 then 2 else 1)
        lastline :=
          if t.raster.lastline.toNat < t.raster.displine.toNat then t.raster.displine else t.raster.lastline
        displine := BitVec.ofNat 16 (t.raster.displine.toNat + if t.eff.interlace then 2 else 1) } } := by
  rw [State.markLastLine_eq]
  rfl

/-- A displayed line on which no cursor row shows (R286). -/
theorem State.tick_of_hidden {s : State} (hon : s.flags.on = true) (hpos : s.raster.linepos = false)
    (hdisp : s.raster.dispon = true) (h : s.cursorTrigger.raster.hwcursorOn = 0) :
    s.tick = s.lineStamped.renderLine.advanceMa.markLastLine.advanceDispline := by
  have hcursor : s.lineStamped.renderLine.advanceMa.drawCursorLine = s.lineStamped.renderLine.advanceMa :=
    State.drawCursorLine_of_hidden (by rw [State.lineRendered_eq]; exact h)
  rw [State.tick_of_dispon hon hpos hdisp, hcursor]

/-- Settles O56: no stamp is made and no cursor is drawn, so the line is the renderer's. -/
theorem activeLineRendersPixels : Obligations.ActiveLineRendersPixels := by
  intro s hon hpos hdisp hhidden r none size ma line byteAt pixel gate
  have hdirty (p : Nat) : s.lineStamped.dirty p = s.dirty p := by
    rw [State.dirty, State.dirty, State.lineStamped_changedvram_of_hidden hhidden]
  have hraster : s.lineStamped.raster = s.lineRaster := by rw [s.lineStamped_eq]
  have hgate : s.lineStamped.renderGate = true ↔ gate := by
    rw [State.renderGate_iff, hdirty, hdirty, hraster]
    exact Iff.rfl
  obtain ⟨hopen, hshut⟩ := s.lineRendered_markers
  rw [hgate] at hopen hshut
  have hframe := s.lineRendered_eq
  rw [State.lineStamped_changedvram_of_hidden hhidden] at hframe
  have hpixels := fun (hg : gate) (k : Half) (x : Nat) => State.fbRead_lineRendered (hgate.2 hg) k x
  have hnone : ¬ gate → s.lineStamped.renderLine.fb = s.fb := fun hg => by
    rw [State.renderLine_of_shut (fun h => hg (hgate.1 h)), s.lineStamped_eq]
  simp only [State.renderPixel_lineStamped] at hpixels
  refine ⟨s.tick, exec_tick s, ?_⟩
  rw [State.tick_of_hidden hon hpos hdisp hhidden, State.lineEnd_eq]
  generalize s.lineStamped.renderLine = t at *
  refine ⟨fun hg k x => ?pixels, hnone, hopen, hshut, ?frame⟩
  case pixels => exact (State.fbRead_congr rfl rfl k x).trans (hpixels hg k x)
  case frame =>
    rw [hframe]
    rfl

/-- The end of a displayed line with a cursor row on it: the row is drawn before the counters advance (R286). -/
theorem State.cursorLineEnd_eq {t : State} (h : t.raster.hwcursorOn ≠ 0) :
    t.advanceMa.drawCursorLine.markLastLine.advanceDispline = { t with
      fb := (t.advanceMa.cursorDraw t.raster.displine).fb
      raster := { t.raster with
        ma := t.maskAddr (t.raster.ma.toNat + t.eff.hDisp * if t.eff.bpp16 then 2 else 1)
        hwcursorOn := BitVec.ofNat 7 (t.raster.hwcursorOn.toNat - if t.eff.interlace then 2 else 1)
        latch := { t.raster.latch with
          addr := t.raster.latch.addr + 16 + if t.eff.interlace then 16 else 0 }
        lastline :=
          if t.raster.lastline.toNat < t.raster.displine.toNat then t.raster.displine else t.raster.lastline
        displine := BitVec.ofNat 16 (t.raster.displine.toNat + if t.eff.interlace then 2 else 1) } } := by
  have hcursor := State.drawCursorLine_of_shown (s := t.advanceMa) h
  have hline : t.advanceMa.raster.displine = t.raster.displine := rfl
  rw [hline] at hcursor
  rw [State.markLastLine_eq, hcursor]
  generalize (t.advanceMa.cursorDraw t.raster.displine).fb = pixels
  rfl

/-- The state in which the trigger has run and the line is rendered, and nothing else has happened (R290, R292). -/
def State.triggeredRendered (s : State) : State :=
  { s with fb := s.lineStamped.renderLine.fb, raster := s.cursorTrigger.raster }

theorem State.triggeredRendered_fb (s : State) : s.triggeredRendered.fb = s.lineStamped.renderLine.fb := by
  rw [State.triggeredRendered]

theorem State.triggeredRendered_cfg (s : State) : s.triggeredRendered.cfg = s.cfg := rfl

theorem State.triggeredRendered_eq (s : State) :
    s.triggeredRendered = { s.cursorTrigger with fb := s.triggeredRendered.fb } := by
  have hframe := s.cursorTrigger_frame
  rw [State.triggeredRendered_fb, State.triggeredRendered]
  generalize s.cursorTrigger = g at *
  rw [hframe]
  rfl

/-- The compositor sees the same on a rendered line whether or not its counters have advanced (R286, R293). -/
theorem State.sameSprite_triggeredRendered (s : State) :
    s.triggeredRendered.SameSprite s.lineStamped.renderLine.advanceMa := by
  have hframe := s.lineRendered_eq
  rw [State.triggeredRendered]
  generalize s.lineStamped.renderLine = t at *
  constructor <;> rw [hframe] <;> rfl

/-- The next state of a displayed line with a cursor row on it, in terms of what the renderer left (R286). -/
theorem State.tick_of_shown {s : State} (hon : s.flags.on = true) (hpos : s.raster.linepos = false)
    (hdisp : s.raster.dispon = true) (h : s.cursorTrigger.raster.hwcursorOn ≠ 0) :
    let r := s.cursorTrigger.raster
    s.tick = { s with
      fb := (s.triggeredRendered.cursorDraw r.displine).fb
      changedvram := s.lineStamped.changedvram
      outputs := if r.firstline = s.cfg.firstlineNone then .waitForBuffer :: s.outputs else s.outputs
      raster := { r with
        linepos := true
        firstline := if r.firstline = s.cfg.firstlineNone then r.displine else r.firstline
        lastline := if r.lastline.toNat < r.displine.toNat then r.displine else r.lastline
        firstlineDraw := s.lineStamped.renderLine.raster.firstlineDraw
        lastlineDraw := s.lineStamped.renderLine.raster.lastlineDraw
        ma := s.maskAddr (r.ma.toNat + s.eff.hDisp * if s.eff.bpp16 then 2 else 1)
        displine := BitVec.ofNat 16 (r.displine.toNat + if s.eff.interlace then 2 else 1)
        hwcursorOn := BitVec.ofNat 7 (r.hwcursorOn.toNat - if s.eff.interlace then 2 else 1)
        latch := { r.latch with addr := r.latch.addr + 16 + if s.eff.interlace then 16 else 0 } } } := by
  intro r
  have hframe := s.lineRendered_eq
  have hraster : s.lineStamped.renderLine.raster = _ := congrArg State.raster hframe
  have hshown : s.lineStamped.renderLine.raster.hwcursorOn ≠ 0 := by rw [hraster]; exact h
  have hline : s.lineStamped.renderLine.raster.displine = r.displine := by rw [hraster]; rfl
  rw [State.tick_of_dispon hon hpos hdisp, State.cursorLineEnd_eq hshown,
    s.sameSprite_triggeredRendered.cursorDraw_fb, hline]
  generalize (s.triggeredRendered.cursorDraw r.displine).fb = pixels
  generalize s.lineStamped.changedvram = counters at *
  generalize s.lineStamped.renderLine = t at *
  rw [hframe]
  rfl

/-- Settles O58: the stamp precedes the gate, the row is drawn over the rendered line, the rest is as without one. -/
theorem cursorLineIsMarkedAndDrawn : Obligations.CursorLineIsMarkedAndDrawn := by
  intro s hon hpos hdisp hshown hc g r none size ma line step byteAt pixel
  have htick := State.tick_of_shown hon hpos hdisp hshown
  have hdirty (p : Nat) : s.tick.dirty p = s.lineStamped.dirty p := by
    rw [State.dirty, State.dirty, htick]
  refine ⟨s.tick, s.triggeredRendered, exec_tick s, ?_⟩
  intro gate
  have hraster : s.lineStamped.raster = s.lineRaster := by rw [s.lineStamped_eq]
  have hgate : s.lineStamped.renderGate = true ↔ gate := by
    rw [State.renderGate_iff, ← hdirty, ← hdirty, hraster]
    exact Iff.rfl
  have hmarkers := s.lineRendered_markers
  rw [hgate] at hmarkers
  obtain ⟨hopen, hshut⟩ := hmarkers
  have hcfg : s.lineStamped.renderLine.cfg = s.cfg := by rw [s.lineRendered_eq]
  refine ⟨fun p => ?dirty, s.triggeredRendered_eq, fun hg k x => ?pixels, fun hg => ?none, ?opened, ?shut, ?frame⟩
  case dirty => rw [hdirty, State.dirty_lineStamped hc hshown]
  case pixels =>
    have hbuffer : s.triggeredRendered.fbRead k x = s.lineStamped.renderLine.fbRead k x :=
      State.fbRead_congr s.triggeredRendered_fb (s.triggeredRendered_cfg.trans hcfg.symm) k x
    rw [hbuffer, State.fbRead_lineRendered (hgate.2 hg), State.renderPixel_lineStamped]
  case none =>
    rw [State.triggeredRendered_fb, State.renderLine_of_shut (fun h => hg (hgate.1 h)), s.lineStamped_eq]
  case opened => rw [htick]; exact hopen
  case shut => rw [htick]; exact hshut
  case frame =>
    rw [htick]
    rfl

/-! ## The frame of a tick -/

/-- A test of a threshold keeps a field of the state that its action keeps. -/
theorem State.atThreshold_field {α : Type} {field : State → α} {act : State → State}
    (hact : ∀ t, field (act t) = field t) (s : State) (threshold : Nat) :
    field (s.atThreshold threshold act) = field s := by
  unfold State.atThreshold
  split
  · exact hact s
  · rfl

/-- A blank line changes the dirty counters at display end alone (R295, R297). -/
theorem State.enterBlankLine_changedvram (s : State) :
    s.enterBlankLine.changedvram = s.changedvram ∨
      s.enterBlankLine.changedvram = s.changedvram.filterMap decayCell := by
  have hrow : (s.setLinepos false).advanceRow.advanceVc.testSplit.changedvram = s.changedvram := by
    refine (State.atThreshold_field (field := State.changedvram) (act := State.atSplit) (fun _ => rfl) _ _).trans ?_
    rw [State.advanceRow_eq]
    rfl
  have hlast (t : State) : t.testVsync.testTotal.changedvram = t.changedvram :=
    (State.atThreshold_field (field := State.changedvram) (act := State.atTotal) (fun _ => rfl) _ _).trans
      (State.atThreshold_field (field := State.changedvram) (act := State.atVsync) (fun _ => rfl) _ _)
  rw [State.enterBlankLine, hlast, ← hrow]
  generalize (s.setLinepos false).advanceRow.advanceVc.testSplit = t
  rw [State.testDisplayEnd, State.atThreshold]
  split
  · exact .inr rfl
  · exact .inl rfl

/-- A displayed or undisplayed active line leaves a counter, or stamps it with the frame counter (R286, R291). -/
theorem State.dirty_enterActiveLine {s : State} (hc : s.memoriesCanonical) (hon : s.flags.on = true)
    (hpos : s.raster.linepos = false) (p : Nat) :
    s.enterActiveLine.dirty p = s.dirty p ∨ s.enterActiveLine.dirty p = s.raster.changeframecount := by
  cases hdisp : s.raster.dispon with
  | false =>
    left
    rw [State.enterActiveLine_of_dispoff hdisp, State.cursorTrigger_frame]
    rfl
  | true =>
    rw [← State.tick_of_active hon hpos]
    by_cases hshown : s.cursorTrigger.raster.hwcursorOn = 0
    · left
      rw [State.tick_of_hidden hon hpos hdisp hshown, State.lineEnd_eq, State.lineRendered_eq, State.dirty, State.dirty,
        State.lineStamped_changedvram_of_hidden hshown]
    · have hdirty : s.tick.dirty p = s.lineStamped.dirty p := by
        rw [State.dirty, State.dirty, State.tick_of_shown hon hpos hdisp hshown]
      rw [hdirty, State.dirty_lineStamped hc hshown, State.cursorTrigger_changeframecount]
      split
      · exact .inr rfl
      · exact .inl rfl

theorem decayCounter_eq (c : Byte) : decayCounter c = c ∨ decayCounter c = c - 1 := by
  unfold decayCounter
  split
  · next h => exact .inl h.symm
  · exact .inr rfl

/-- Settles O15: an active line stamps, a blank line lowers, and neither touches what is outside the frame. -/
theorem tickFrame : Obligations.TickFrame := by
  intro s t ht
  rw [exec_tick] at ht
  cases ht
  refine ⟨s.sameButTick_tick, fun hc p => ?_⟩
  cases hon : s.flags.on with
  | false => exact .inl (by rw [State.tick_of_off hon])
  | true =>
    cases hpos : s.raster.linepos with
    | false =>
      rw [State.tick_of_active hon hpos]
      rcases State.dirty_enterActiveLine hc hon hpos p with hkept | hstamped
      · exact .inl hkept
      · exact .inr (.inl hstamped)
    | true =>
      rw [State.tick_of_blank hon hpos, State.dirty]
      rcases s.enterBlankLine_changedvram with hkept | hlowered
      · exact .inl (by rw [hkept]; rfl)
      · obtain ⟨-, -, hwf, -⟩ := hc
        obtain ⟨hrising, -⟩ := (Counters.wf_iff _).1 hwf
        rw [hlowered, Counters.read_decay hrising]
        rcases decayCounter_eq (s.dirty p) with hsame | hless
        · exact .inl hsame
        · exact .inr (.inr hless)

end Sys2Proof.Machine
end

section
/-! The extended ports and sub-registers one by one (R341 to R345, R351, R354), and the recalculation (R283). -/

namespace Sys2Proof.Machine

/-! ## The rows -/

/-- A sub-register's row is an access at its index (R343, log 31). -/
theorem exec_subRow {q : Byte × (ByteAccess → Instr)} (hq : q ∈ subRows) (acc : ByteAccess) (s : State) :
    exec (q.2 acc) s = .next (s.accessSub q.1.toNat acc) := by
  unfold subRows at hq
  fin_cases hq <;> rfl

/-- A field's row is an access of the field, whatever port the map gives it (R341, log 31). -/
theorem exec_fieldRow_access {q : PortField × (ByteAccess → Instr)} (hq : q ∈ fieldRows) (acc : ByteAccess)
    (s : State) :
    exec (q.2 acc) s = .next (s.accessField q.1 acc) := by
  unfold fieldRows at hq
  fin_cases hq <;> rfl

/-- The row of a port without a field in the default map is an access by number (R341, log 31). -/
theorem exec_unnamedRow {q : BitVec 4 × (ByteAccess → Instr)} (hq : q ∈ unnamedRows) (acc : ByteAccess) (s : State) :
    exec (q.2 acc) s = .next (s.accessPort q.1 acc) := by
  unfold unnamedRows at hq
  fin_cases hq <;> rfl

theorem exec_out (p : BitVec 4) (v : Byte) (s : State) : exec (.out p v) s = .next (s.portWrite p v) := rfl

theorem exec_inp (p : BitVec 4) (s : State) : exec (.inp p) s = .next (s.respondByte (s.portRead p)) := rfl

/-- The rows of the five data ports (R341). -/
theorem dataRow_mem {row : ByteAccess → Instr}
    (h : row ∈ [Instr.portDataB, Instr.portDataC, Instr.portDataD, Instr.portDataE, Instr.portDataF]) :
    (.data, row) ∈ fieldRows := by
  unfold fieldRows
  fin_cases h <;> simp

/-! ## Ports and indices that the map gives nothing -/

theorem State.subWrite_of_none {s : State} {k : Nat} (h : subEntry s.cfg.extRegMap k = none) (v : Byte) :
    s.subWrite k v = s := by
  rw [State.subWrite, h]

theorem State.subRead_of_none {s : State} {k : Nat} (h : subEntry s.cfg.extRegMap k = none) : s.subRead k = 0 := by
  rw [State.subRead, h]

theorem State.portWrite_of_field {s : State} {p : BitVec 4} {f : PortField} (h : portField s.cfg.extRegMap p = some f)
    (v : Byte) : s.portWrite p v = s.portStore f v := by
  rw [State.portWrite, h]

theorem State.portWrite_of_none {s : State} {p : BitVec 4} (h : portField s.cfg.extRegMap p = none) (v : Byte) :
    s.portWrite p v = s := by
  rw [State.portWrite, h]

theorem State.portRead_of_field {s : State} {p : BitVec 4} {f : PortField} (h : portField s.cfg.extRegMap p = some f) :
    s.portRead p = s.portGet f := by
  rw [State.portRead, h]

theorem State.portRead_of_none {s : State} {p : BitVec 4} (h : portField s.cfg.extRegMap p = none) :
    s.portRead p = 0 := by
  rw [State.portRead, h]

/-! ## The ports -/

/-- Settles O23: a discrete field's store, the aperture control's remapping, a data port as the row of its index, an
event as the row of its port's field. -/
theorem portWritesStoreAndAct : Obligations.PortWritesStoreAndAct := by
  refine ⟨fun v s => ⟨rfl, ?aperture, rfl, rfl, rfl, rfl, fun row hrow => ?data⟩, fun p v s => ?out, by decide⟩
  case aperture =>
    have hwrite : exec (.portApertureCntl (.write v)) s =
        .next (s.withExt { s.ext with apertureCntl := v }).updateMapping := rfl
    rw [hwrite, State.updateMapping_eq, Ext.windows_eq]
    rfl
  case data =>
    refine ⟨s.subWrite s.ext.regIdx.toNat v, exec_fieldRow_access (dataRow_mem hrow) (.write v) s, ?_, ?_⟩
    · rintro r hr hidx
      rw [exec_subRow hr, hidx]
      rfl
    · exact fun hnone => State.subWrite_of_none hnone v
  case out =>
    refine ⟨s.portWrite p v, exec_out p v s, ?_, fun hnone => State.portWrite_of_none hnone v, ?_⟩
    · intro r hr hport
      rw [exec_fieldRow_access hr, State.portWrite_of_field hport]
      rfl
    · rintro r hr rfl
      rw [exec_unnamedRow hr]
      rfl

/-- Settles O24: a port's row and its event answer the byte of the field, a data port that of its index's row. -/
theorem portReadsAnswerStoredByte : Obligations.PortReadsAnswerStoredByte := by
  intro s gives
  refine ⟨rfl, rfl, rfl, rfl, rfl, rfl, fun row hrow => ?data, fun p => ?inp⟩
  case data =>
    refine ⟨s.subRead s.ext.regIdx.toNat, exec_fieldRow_access (dataRow_mem hrow) .read s, ?_, State.subRead_of_none⟩
    rintro r hr hidx
    rw [exec_subRow hr, hidx]
    rfl
  case inp =>
    refine ⟨s.portRead p, exec_inp p s, ?_, State.portRead_of_none, ?_⟩
    · intro r hr hport
      rw [exec_fieldRow_access hr, State.portRead_of_field hport]
      rfl
    · rintro r hr rfl
      rw [exec_unnamedRow hr]
      rfl

/-! ## The recalculation -/

theorem State.recalcValue_free {s : State} (h : s.cfg.recalc = .free) : s.recalcValue = Config.recalc s.ext.crtc := by
  rw [State.recalcValue, h]

theorem State.recalcValue_identity {s : State} (h : s.cfg.recalc = .identity) :
    s.recalcValue = recalcIdentity s.ext.crtc := by
  rw [State.recalcValue, h]

/-- The 16-bit display mode is the value 4 of the low three bits (R283). -/
theorem recalcIdentity_bpp16_iff (c : CrtcRegs) : (recalcIdentity c).bpp16 = true ↔ c.dispMode.toNat % 8 = 4 := by
  have hfield : (c.dispMode.extractLsb' 0 3).toNat = c.dispMode.toNat % 8 := by simp
  rw [← hfield, recalcIdentity, decide_eq_true_iff]
  exact ⟨fun h => by rw [h]; rfl, fun h => BitVec.eq_of_toNat_eq h⟩

/-- Settles O27: the frame is the recalculation's own, and the two rules give its value. -/
theorem recalculationCopiesTable : Obligations.RecalculationCopiesTable := by
  intro c s r
  refine ⟨rfl, fun hfree => ?free, fun hid => ?identity⟩
  case free => exact State.recalcValue_free (s := s.withCrtc c) hfree
  case identity =>
    have heff : r.eff = recalcIdentity c := State.recalcValue_identity (s := s.withCrtc c) hid
    rw [heff]
    exact ⟨rfl, rfl, rfl, rfl, rfl, rfl, rfl, rfl, Iff.rfl, recalcIdentity_bpp16_iff c⟩

/-! ## Byte lanes of the stored fields -/

theorem setByteLane_lane0 (w : Word) (v : Byte) : setByteLane w 0 v = w.extractLsb' 8 24 ++ v := by
  refine BitVec.eq_of_getLsbD_eq fun i hi => ?_
  rw [getLsbD_setByteLane _ _ _ (by omega), BitVec.getLsbD_append, BitVec.getLsbD_extractLsb']
  grind

theorem setByteLane_lane1 (w : Word) (v : Byte) :
    setByteLane w 1 v = w.extractLsb' 16 16 ++ v ++ w.extractLsb' 0 8 := by
  refine BitVec.eq_of_getLsbD_eq fun i hi => ?_
  rw [getLsbD_setByteLane _ _ _ (by omega)]
  simp only [BitVec.getLsbD_append, BitVec.getLsbD_extractLsb']
  grind

theorem setByteLane_lane2 (w : Word) (v : Byte) :
    setByteLane w 2 v = w.extractLsb' 24 8 ++ v ++ w.extractLsb' 0 16 := by
  refine BitVec.eq_of_getLsbD_eq fun i hi => ?_
  rw [getLsbD_setByteLane _ _ _ (by omega)]
  simp only [BitVec.getLsbD_append, BitVec.getLsbD_extractLsb']
  grind

theorem setWidth_setByteLane_address0 (a : BitVec 24) (v : Byte) :
    (setByteLane (a.setWidth 32) 0 v).setWidth 24 = a.extractLsb' 8 16 ++ v := by
  refine BitVec.eq_of_getLsbD_eq fun i hi => ?_
  rw [BitVec.getLsbD_setWidth, getLsbD_setByteLane _ _ _ (by omega)]
  simp only [BitVec.getLsbD_append, BitVec.getLsbD_extractLsb', BitVec.getLsbD_setWidth]
  grind

theorem setWidth_setByteLane_address1 (a : BitVec 24) (v : Byte) :
    (setByteLane (a.setWidth 32) 1 v).setWidth 24 = a.extractLsb' 16 8 ++ v ++ a.extractLsb' 0 8 := by
  refine BitVec.eq_of_getLsbD_eq fun i hi => ?_
  rw [BitVec.getLsbD_setWidth, getLsbD_setByteLane _ _ _ (by omega)]
  simp only [BitVec.getLsbD_append, BitVec.getLsbD_extractLsb', BitVec.getLsbD_setWidth]
  grind

theorem setWidth_setByteLane_address2 (a : BitVec 24) (v : Byte) :
    (setByteLane (a.setWidth 32) 2 v).setWidth 24 = v ++ a.extractLsb' 0 16 := by
  refine BitVec.eq_of_getLsbD_eq fun i hi => ?_
  rw [BitVec.getLsbD_setWidth, getLsbD_setByteLane _ _ _ (by omega)]
  simp only [BitVec.getLsbD_append, BitVec.getLsbD_extractLsb', BitVec.getLsbD_setWidth]
  grind

/-- A field of at most a byte takes its bits from the byte written. -/
theorem setWidth_setByteLane_narrow {n : Nat} (hn : n ≤ 8) (w : Word) (v : Byte) :
    (setByteLane w 0 v).setWidth n = v.setWidth n := by
  refine BitVec.eq_of_getLsbD_eq fun i hi => ?_
  rw [BitVec.getLsbD_setWidth, BitVec.getLsbD_setWidth, getLsbD_setByteLane _ _ _ (by omega), if_pos (by omega)]
  simp

theorem getLsbD_zero_setByteLane (w : Word) (v : Byte) : (setByteLane w 0 v).getLsbD 0 = v.getLsbD 0 := by
  rw [getLsbD_setByteLane _ _ _ (by omega), if_pos (by omega)]

theorem byteLane_setWidth {n : Nat} (a : BitVec n) {k : Nat} (hk : k < 4) :
    byteLane (a.setWidth 32) k = a.extractLsb' (8 * k) 8 := by
  refine BitVec.eq_of_getLsbD_eq fun i hi => ?_
  rw [byteLane, BitVec.getLsbD_extractLsb', BitVec.getLsbD_extractLsb', BitVec.getLsbD_setWidth,
    decide_eq_true (show 8 * k + i < 32 by omega), Bool.true_and]

theorem byteLane_setWidth_narrow {n : Nat} (a : BitVec n) : byteLane (a.setWidth 32) 0 = a.setWidth 8 := by
  rw [byteLane_setWidth a (by omega)]
  refine BitVec.eq_of_getLsbD_eq fun i hi => ?_
  simp [hi]

theorem byteLane_flag (b : Bool) : byteLane (if b then 1 else 0) 0 = if b then 1 else 0 := by
  cases b <;> rfl

/-! ## The sub-registers -/

/-- A read of a sub-register's byte, by its entry (R351). -/
theorem State.subRead_of_entry {s : State} {i : Nat} {e : SubEntry} (hmap : s.cfg.extRegMap = Config.extRegMap)
    (hentry : subEntry Config.extRegMap i = some e) : s.subRead i = byteLane (subGet s.ext e.field) e.lane := by
  rw [State.subRead, hmap, hentry]

/-- A colour's byte is stored in its lane, and the colour keeps `OUT_BITS` bits (R35, log 17). -/
theorem State.colourBits_lane0 (s : State) (w : Word) (v : Byte) :
    BitVec.ofNat 32 (HostConfig.outPixel s.cfg (setByteLane w 0 v).toNat) =
      s.colourBits (w.extractLsb' 8 24 ++ v) := by
  rw [setByteLane_lane0]
  rfl

theorem State.colourBits_lane1 (s : State) (w : Word) (v : Byte) :
    BitVec.ofNat 32 (HostConfig.outPixel s.cfg (setByteLane w 1 v).toNat) =
      s.colourBits (w.extractLsb' 16 16 ++ v ++ w.extractLsb' 0 8) := by
  rw [setByteLane_lane1]
  rfl

theorem State.colourBits_lane2 (s : State) (w : Word) (v : Byte) :
    BitVec.ofNat 32 (HostConfig.outPixel s.cfg (setByteLane w 2 v).toNat) =
      s.colourBits (w.extractLsb' 24 8 ++ v ++ w.extractLsb' 0 16) := by
  rw [setByteLane_lane2]
  rfl

/-- Each sub-register's write, by its entry of the default map: the byte goes to its lane (R343 to R345). -/
theorem exec_subField_write {f : SubByte} (hf : f ∈ subFields) {s : State}
    (hmap : s.cfg.extRegMap = Config.extRegMap) (v : Byte) : exec (f.row (.write v)) s = .next (f.set s v) := by
  unfold subFields at hf
  fin_cases hf
  all_goals
    refine congrArg _ ((State.subWrite_of_entry hmap rfl v).trans ?_)
    simp only [State.subStore, subSet, subGet, setWidth_setByteLane_low, setWidth_setByteLane_high,
      setWidth_setByteLane_narrow (Nat.le_refl 8), setWidth_setByteLane_narrow (show 6 ≤ 8 by decide),
      setWidth_setByteLane_narrow (show 2 ≤ 8 by decide), getLsbD_zero_setByteLane,
      setWidth_setByteLane_address0, setWidth_setByteLane_address1, setWidth_setByteLane_address2,
      State.colourBits_lane0, State.colourBits_lane1, State.colourBits_lane2, BitVec.setWidth_eq]
    rfl

/-- Each sub-register's read, by its entry of the default map: the byte of its lane of the field (R351). -/
theorem exec_subField_read {f : SubByte} (hf : f ∈ subFields) {s : State}
    (hmap : s.cfg.extRegMap = Config.extRegMap) : exec (f.row .read) s = .next (s.respondByte (f.get s)) := by
  unfold subFields at hf
  fin_cases hf
  all_goals
    refine congrArg (fun b => Host.Outcome.next (s.respondByte b)) ((State.subRead_of_entry hmap rfl).trans ?_)
    simp only [subGet, byteLane_setWidth_narrow, byteLane_flag] <;> rfl

/-- Settles O25: under the default map by the entry of each row, under any map by the missing entry. -/
theorem subRegistersWriteAndRead : Obligations.SubRegistersWriteAndRead := by
  refine ⟨fun f hf v s hmap => ⟨exec_subField_write hf hmap v, exec_subField_read hf hmap⟩, fun r hr v s hnone => ?_⟩
  rw [exec_subRow hr, exec_subRow hr, State.accessSub, State.accessSub, State.subWrite_of_none hnone,
    State.subRead_of_none hnone]
  exact ⟨rfl, rfl⟩

end Sys2Proof.Machine
end

section
/-! Loads of the palette and the sprite buffer (R344, R345): data bytes go to successive entries of a ring, and what a
load leaves is said once for both tables. -/

namespace Sys2Proof.Machine

/-! ## Values written around a ring -/

section
variable {α : Type}

/-- The memory after values are written to successive addresses from `a` on, wrapping at `n`. -/
def Memory.load (n : Nat) : List (Nat × α) → Nat → List α → List (Nat × α)
  | m, _, [] => m
  | m, a, v :: vs => Memory.load n (Memory.write m a v) ((a + 1) % n) vs

theorem mod_add_succ (a k n : Nat) : ((a + 1) % n + k) % n = (a + (k + 1)) % n := by
  rw [Nat.mod_add_mod, Nat.add_assoc, Nat.add_comm 1 k]

/-- Fewer than `n` places on, a ring of `n` places is not back where it started. -/
theorem add_mod_ne_self {a k n : Nat} (ha : a < n) (hk : 0 < k) (hkn : k < n) : (a + k) % n ≠ a := by
  by_cases hwrap : a + k < n
  · rw [Nat.mod_eq_of_lt hwrap]
    omega
  · rw [Nat.mod_eq_sub_mod (by omega), Nat.mod_eq_of_lt (by omega)]
    omega

theorem Memory.find_load_other {n j : Nat} (vs : List α) {m : List (Nat × α)} {a : Nat} (ha : a < n)
    (hj : ∀ k < vs.length, j ≠ (a + k) % n) : Sparse.find j (Memory.load n m a vs) = Sparse.find j m := by
  induction vs generalizing m a with
  | nil => rfl
  | cons v vs ih =>
    have hne : j ≠ a := by simpa [Nat.mod_eq_of_lt ha] using hj 0 (Nat.succ_pos _)
    rw [Memory.load, ih (Nat.mod_lt _ (by omega)), Memory.find_write, if_neg hne]
    intro k hk
    rw [mod_add_succ]
    exact hj (k + 1) (Nat.succ_lt_succ hk)

theorem Memory.find_load_at {n : Nat} {vs : List α} (hlen : vs.length ≤ n) {m : List (Nat × α)} {a : Nat} (ha : a < n)
    {k : Nat} {v : α} (hk : vs[k]? = some v) : Sparse.find ((a + k) % n) (Memory.load n m a vs) = some v := by
  induction vs generalizing m a k with
  | nil => cases hk
  | cons w vs ih =>
    rw [List.length_cons] at hlen
    have hnext : (a + 1) % n < n := Nat.mod_lt _ (by omega)
    cases k with
    | zero =>
      obtain rfl : w = v := by simpa using hk
      rw [Memory.load, Nat.add_zero, Nat.mod_eq_of_lt ha, Memory.find_load_other vs hnext, Memory.find_write,
        if_pos rfl]
      intro k hk
      rw [mod_add_succ]
      exact (add_mod_ne_self ha (Nat.succ_pos k) (by omega)).symm
    | succ k =>
      rw [Memory.load, ← mod_add_succ]
      exact ih (by omega) hnext hk

end

/-! ## Runs of rows -/

theorem State.execAll_cons {s t : State} {i : Instr} (h : exec i s = .next t) (is : List Instr) :
    s.execAll (i :: is) = t.execAll is := by
  simp only [State.execAll, h]

/-! ## The palette (R344) -/

/-- What a write of the shared index register leaves (R344, R345). -/
def State.indexed (s : State) (v : Byte) : State :=
  s.withExt { s.ext with dacIndex := v, dacSeq := .red, spriteIdx := s.ext.spriteIdx.extractLsb' 8 2 ++ v }

theorem exec_idx60 {s : State} (hmap : s.cfg.extRegMap = Config.extRegMap) (v : Byte) :
    exec (.idx60 (.write v)) s = .next (s.indexed v) :=
  congrArg Host.Outcome.next (State.subWrite_of_entry (i := 0x60) hmap rfl v)

theorem exec_idx65 {s : State} (hmap : s.cfg.extRegMap = Config.extRegMap) (v : Byte) :
    exec (.idx65 (.write v)) s = .next (s.paletteWrite v) :=
  congrArg Host.Outcome.next (State.subWrite_of_entry (i := 0x65) hmap rfl v)

/-- What the three data bytes of an entry leave (D33). -/
def State.paletteCommitted (s : State) (e : Rgb) : State :=
  { s with
    palette := Memory.write s.palette s.ext.dacIndex.toNat e
    ext := { s.ext with dacIndex := s.ext.dacIndex + 1, dacSeq := .red, dacR := e.r, dacG := e.g } }

/-- The rows that write an entry's three data bytes. -/
def entryRows (e : Rgb) : List Instr := [.idx65 (.write e.r), .idx65 (.write e.g), .idx65 (.write e.b)]

theorem State.execAll_entryRows {s : State} (hmap : s.cfg.extRegMap = Config.extRegMap) (hseq : s.ext.dacSeq = .red)
    (e : Rgb) (is : List Instr) : s.execAll (entryRows e ++ is) = (s.paletteCommitted e).execAll is := by
  have hred : s.paletteWrite e.r = s.withExt { s.ext with dacR := e.r, dacSeq := .green } := by
    simp only [State.paletteWrite, hseq]
    rfl
  have hfirst := exec_idx65 hmap e.r
  rw [hred] at hfirst
  have hsecond := exec_idx65 (s := s.withExt { s.ext with dacR := e.r, dacSeq := .green }) hmap e.g
  have hthird := exec_idx65 (s := s.withExt { s.ext with dacR := e.r, dacG := e.g, dacSeq := .blue }) hmap e.b
  exact (State.execAll_cons hfirst _).trans ((State.execAll_cons hsecond _).trans (State.execAll_cons hthird _))

theorem State.execAll_entries {s : State} (hmap : s.cfg.extRegMap = Config.extRegMap) (hseq : s.ext.dacSeq = .red)
    (entries : List Rgb) : s.execAll (entries.flatMap entryRows) = .next (entries.foldl State.paletteCommitted s) := by
  induction entries generalizing s with
  | nil => rfl
  | cons e entries ih =>
    rw [List.flatMap_cons, State.execAll_entryRows hmap hseq]
    exact ih (s := s.paletteCommitted e) hmap rfl

theorem toNat_add_one {w : Nat} (hw : 0 < w) (i : BitVec w) : (i + 1).toNat = (i.toNat + 1) % 2 ^ w := by
  have hone : (1 : BitVec w).toNat = 1 := by
    simp [Nat.one_mod_eq_one.2 (Nat.one_lt_two_pow (Nat.pos_iff_ne_zero.1 hw)).ne']
  rw [BitVec.toNat_add, hone]

theorem add_ofNat_succ {w : Nat} (i : BitVec w) (n : Nat) :
    i + 1 + BitVec.ofNat w n = i + BitVec.ofNat w (n + 1) := by
  rw [BitVec.ofNat_add]
  ac_rfl

/-- What a load of whole entries leaves: the entries around the ring, the index past them, the latched components. -/
theorem State.foldl_paletteCommitted (entries : List Rgb) {s : State} (hseq : s.ext.dacSeq = .red) :
    ∃ r g : Byte, entries.foldl State.paletteCommitted s = { s with
      palette := Memory.load 256 s.palette s.ext.dacIndex.toNat entries
      ext := { s.ext with
        dacIndex := s.ext.dacIndex + BitVec.ofNat 8 entries.length, dacSeq := .red, dacR := r, dacG := g } } := by
  induction entries generalizing s with
  | nil => exact ⟨s.ext.dacR, s.ext.dacG, by rw [← hseq]; simp [Memory.load]⟩
  | cons e entries ih =>
    obtain ⟨r, g, hload⟩ := ih (s := s.paletteCommitted e) rfl
    refine ⟨r, g, ?_⟩
    have hnext : (s.ext.dacIndex + 1).toNat = (s.ext.dacIndex.toNat + 1) % 256 := toNat_add_one (by decide) _
    rw [List.foldl_cons, hload, List.length_cons, ← add_ofNat_succ, Memory.load, ← hnext]
    rfl

/-- Settles O28: the load fills a ring of 256 entries from the index on. -/
theorem paletteLoadCommitsTriples : Obligations.PaletteLoadCommitsTriples := by
  intro i entries s hmap hlen
  obtain ⟨r, g, hload⟩ := State.foldl_paletteCommitted entries (s := s.indexed i) rfl
  refine ⟨entries.foldl State.paletteCommitted (s.indexed i), ?run, ?_⟩
  case run =>
    exact (State.execAll_cons (exec_idx60 hmap i) _).trans (State.execAll_entries (s := s.indexed i) hmap rfl entries)
  rw [hload]
  refine ⟨rfl, rfl, fun k e hk => ?written, fun j hj => ?other, rfl⟩
  case written => exact congrArg (Option.getD · _) (Memory.find_load_at hlen i.isLt hk)
  case other => exact congrArg (Option.getD · _) (Memory.find_load_other entries i.isLt hj)

/-! ## The sprite buffer (R345) -/

/-- What a write of the sprite pointer's high bits leaves (R345). -/
def State.indexedHigh (s : State) (v : Byte) : State :=
  s.withExt { s.ext with spriteIdx := v.setWidth 2 ++ s.ext.spriteIdx.extractLsb' 0 8 }

theorem exec_idx61 {s : State} (hmap : s.cfg.extRegMap = Config.extRegMap) (v : Byte) :
    exec (.idx61 (.write v)) s = .next (s.indexedHigh v) :=
  congrArg Host.Outcome.next (State.subWrite_of_entry (i := 0x61) hmap rfl v)

theorem exec_idx6a {s : State} (hmap : s.cfg.extRegMap = Config.extRegMap) (v : Byte) :
    exec (.idx6a (.write v)) s = .next (s.spriteWrite v) :=
  congrArg Host.Outcome.next (State.subWrite_of_entry (i := 0x6A) hmap rfl v)

theorem State.execAll_spriteBytes {s : State} (hmap : s.cfg.extRegMap = Config.extRegMap) (bytes : List Byte) :
    s.execAll (bytes.map (fun b => .idx6a (.write b))) = .next (bytes.foldl State.spriteWrite s) := by
  induction bytes generalizing s with
  | nil => rfl
  | cons b bytes ih =>
    rw [List.map_cons, State.execAll_cons (exec_idx6a hmap b)]
    exact ih (s := s.spriteWrite b) hmap

/-- What a load of sprite bytes leaves: the bytes around the ring, and the pointer past the last. -/
theorem State.foldl_spriteWrite (bytes : List Byte) (s : State) :
    bytes.foldl State.spriteWrite s = { s with
      spriteData := Memory.load 1024 s.spriteData s.ext.spriteIdx.toNat bytes
      ext := { s.ext with spriteIdx := s.ext.spriteIdx + BitVec.ofNat 10 bytes.length } } := by
  induction bytes generalizing s with
  | nil => simp [Memory.load]
  | cons b bytes ih =>
    have hnext : (s.ext.spriteIdx + 1).toNat = (s.ext.spriteIdx.toNat + 1) % 1024 := toNat_add_one (by decide) _
    rw [List.foldl_cons, ih, List.length_cons, ← add_ofNat_succ, Memory.load, ← hnext]
    rfl

/-- The pointer that the two index writes make (D26). -/
theorem State.toNat_spritePointer (s : State) (lo hi : Byte) :
    ((s.indexed lo).indexedHigh hi).ext.spriteIdx.toNat = hi.toNat % 4 * 256 + lo.toNat := by
  have hlow : (s.ext.spriteIdx.extractLsb' 8 2 ++ lo).extractLsb' 0 8 = lo := by
    refine BitVec.eq_of_getLsbD_eq fun j hj => ?_
    rw [BitVec.getLsbD_extractLsb', BitVec.getLsbD_append, Nat.zero_add, if_pos hj, decide_eq_true hj, Bool.true_and]
  have hpointer : ((s.indexed lo).indexedHigh hi).ext.spriteIdx =
      hi.setWidth 2 ++ (s.ext.spriteIdx.extractLsb' 8 2 ++ lo).extractLsb' 0 8 := rfl
  rw [hpointer, hlow, BitVec.toNat_append, BitVec.toNat_setWidth, ← Nat.shiftLeft_add_eq_or_of_lt lo.isLt,
    Nat.shiftLeft_eq]

/-- Settles O29: the load fills a ring of 1024 bytes from the pointer on. -/
theorem spriteLoadStoresSuccessiveBytes : Obligations.SpriteLoadStoresSuccessiveBytes := by
  intro lo hi bytes s hmap hlen start
  have hstart : ((s.indexed lo).indexedHigh hi).ext.spriteIdx.toNat = start := s.toNat_spritePointer lo hi
  have hbound : start < 1024 := hstart ▸ BitVec.isLt _
  have hload := State.foldl_spriteWrite bytes ((s.indexed lo).indexedHigh hi)
  rw [hstart] at hload
  refine ⟨bytes.foldl State.spriteWrite ((s.indexed lo).indexedHigh hi), ?run, ?_⟩
  case run =>
    exact (State.execAll_cons (exec_idx60 hmap lo) _).trans
      ((State.execAll_cons (exec_idx61 (s := s.indexed lo) hmap hi) _).trans
        (State.execAll_spriteBytes (s := (s.indexed lo).indexedHigh hi) hmap bytes))
  rw [hload]
  refine ⟨?pointer, fun k b hk => ?written, fun j hj => ?other, rfl⟩
  case pointer =>
    refine (BitVec.toNat_add _ _).trans ?_
    rw [hstart, BitVec.toNat_ofNat]
    omega
  case written => exact congrArg (Option.getD · _) (Memory.find_load_at hlen hbound hk)
  case other => exact congrArg (Option.getD · _) (Memory.find_load_other bytes hbound hj)

end Sys2Proof.Machine
end

section
/-! The mapped window stays current (R348): each operation behind an event leaves the mapping and the registers behind
it alone, maps anew, or leaves no device. -/

namespace Sys2Proof.Machine

/-! ## The mapped window -/

/-- `t` has the device, the mapping and the registers behind it as `s` has them (R348). -/
structure State.KeepsMapping (s t : State) : Prop where
  attached : t.attached = s.attached
  base : t.cfg.bankedBase = s.cfg.bankedBase
  mapping : t.mapping = s.mapping
  control : t.ext.apertureCntl = s.ext.apertureCntl
  linearBase : t.ext.linearBase = s.ext.linearBase
  legacyBase : t.ext.baseAddr1mb = s.ext.baseAddr1mb
  mask : t.ext.bankedMask = s.ext.bankedMask

theorem State.KeepsMapping.mappingCurrent {s t : State} (h : s.KeepsMapping t) (hs : s.mappingCurrent) :
    t.mappingCurrent := by
  unfold State.mappingCurrent at *
  rw [h.attached, h.mapping, h.control, h.mask, Ext.windows_eq, h.control, h.linearBase, h.legacyBase, h.base,
    ← Ext.windows_eq]
  exact hs

/-- A remapping makes the mapping current, whatever it was (R348). -/
theorem State.mappingCurrent_updateMapping (s : State) : s.updateMapping.mappingCurrent :=
  fun _ => ⟨rfl, fun hbanked => if_pos hbanked⟩

theorem State.mappingCurrent_of_detached {s : State} (h : s.attached = false) : s.mappingCurrent :=
  fun hatt => absurd hatt (by rw [h]; decide)

/-- Every change that leaves the extended registers, the configuration and the mapping alone. -/
theorem State.KeepsMapping.of_eq {s t : State} (hatt : t.attached = s.attached) (hcfg : t.cfg = s.cfg)
    (hmap : t.mapping = s.mapping) (hext : t.ext = s.ext) : s.KeepsMapping t :=
  ⟨hatt, by rw [hcfg], hmap, by rw [hext], by rw [hext], by rw [hext], by rw [hext]⟩

theorem State.drawsLaw.keepsMapping {s t : State} (hd : s.drawsLaw t) : s.KeepsMapping t := by
  obtain ⟨hframe, -, -⟩ := hd
  exact .of_eq (State.sameButDrawing_attached hframe) (State.sameButDrawing_cfg hframe)
    (State.sameButDrawing_mapping hframe) (State.sameButDrawing_ext hframe)

theorem State.keepsMapping_tick (s : State) : s.KeepsMapping s.tick := by
  have hframe := s.sameButTick_tick
  unfold State.sameButTick at hframe
  rw [hframe]
  exact .of_eq rfl rfl rfl rfl

/-- No sub-register stores into the registers behind the mapping (R343). -/
theorem State.keepsMapping_subStore (s : State) (f : SubField) (lane : Nat) (v : Byte) :
    s.KeepsMapping (s.subStore f lane v) := by
  cases f with
  | paletteData =>
    cases hseq : s.ext.dacSeq <;> simp only [State.subStore, State.paletteWrite, hseq] <;>
      exact ⟨rfl, rfl, rfl, rfl, rfl, rfl, rfl⟩
  | _ => exact ⟨rfl, rfl, rfl, rfl, rfl, rfl, rfl⟩

theorem State.KeepsMapping.recalc {s t : State} (h : s.KeepsMapping t) : s.KeepsMapping t.recalc := { h with }

theorem State.keepsMapping_subWrite (s : State) (k : Nat) (v : Byte) : s.KeepsMapping (s.subWrite k v) := by
  cases hentry : subEntry s.cfg.extRegMap k with
  | none => rw [State.subWrite_of_none hentry]; exact .of_eq rfl rfl rfl rfl
  | some e =>
    have hstore := s.keepsMapping_subStore e.field e.lane v
    simp only [State.subWrite, hentry]
    split
    · exact hstore.recalc
    · exact hstore

/-- A port's store remaps, or leaves the mapping alone (R341, R348). -/
theorem State.mappingCurrent_portStore {s : State} (f : PortField) (v : Byte) (h : s.mappingCurrent) :
    (s.portStore f v).mappingCurrent := by
  cases f with
  | apertureCntl => exact State.mappingCurrent_updateMapping _
  | data => exact (s.keepsMapping_subWrite _ v).mappingCurrent h
  | _ => exact State.KeepsMapping.mappingCurrent ⟨rfl, rfl, rfl, rfl, rfl, rfl, rfl⟩ h

theorem State.mappingCurrent_portWrite {s : State} (p : BitVec 4) (v : Byte) (h : s.mappingCurrent) :
    (s.portWrite p v).mappingCurrent := by
  cases hport : portField s.cfg.extRegMap p with
  | none => rw [State.portWrite_of_none hport]; exact h
  | some f => rw [State.portWrite_of_field hport]; exact State.mappingCurrent_portStore f v h

theorem RowEffect.mappingCurrent {s t : State} {i : Instr} (he : RowEffect s i t) (h : s.mappingCurrent) :
    t.mappingCurrent := by
  cases he with
  | draws hd => exact hd.keepsMapping.mappingCurrent h
  | answers hd => exact hd.keepsMapping.mappingCurrent h
  | port => exact State.mappingCurrent_portWrite _ _ h
  | field => exact State.mappingCurrent_portStore _ _ h
  | sub => exact (s.keepsMapping_subWrite _ _).mappingCurrent h
  | tick => exact s.keepsMapping_tick.mappingCurrent h

theorem EventEffect.mappingCurrent {s t : State} (he : EventEffect s t) (h : s.mappingCurrent) :
    t.mappingCurrent := by
  cases he with
  | row hr => exact hr.mappingCurrent h
  | answers v => exact h
  | window hd => exact hd.keepsMapping.mappingCurrent h
  | flags f => exact h
  | bases e => exact State.mappingCurrent_updateMapping _
  | legacyVram a v => rw [State.legacyWrite_frame]; exact h
  | legacyCrtc k v => rw [State.crtcWrite_frame]; exact h
  | attach rom lb b1 cfg =>
    cases rom with
    | none => exact State.mappingCurrent_of_detached rfl
    | some image => exact State.mappingCurrent_updateMapping _
  | detach => exact State.mappingCurrent_of_detached rfl

/-- Settles O10: whatever moves the registers behind the mapping maps anew. -/
theorem stepKeepsMappingCurrent : Obligations.StepKeepsMappingCurrent := by
  intro s t h hstep
  obtain rfl | ⟨rest, he⟩ := step_effect hstep
  · exact h
  · exact he.mappingCurrent h

end Sys2Proof.Machine
end

section
/-! The life cycle of the device (R371, R382, R390): attach, its one failure and the reports of it, detach; and that no
operation raises (R370). -/

namespace Sys2Proof.Machine

/-! ## Attach and detach -/

/-- An attach is delivered whether or not a device exists (R371, R375). -/
theorem step_of_attach {s : State} {rom : Option (List Byte)} {lb b1 : Word} {cfg : HostConfig}
    {rest : List HostEvent} (hin : s.inbox = .attach rom lb b1 cfg :: rest) :
    step s = .next (State.attachDevice { s with inbox := rest } rom lb b1 cfg) :=
  step_of_inbox_cons hin (Bool.or_true _)

/-- An attach with an image makes a device (R390). -/
theorem exists_device_of_attach {s : State} {rom : List Byte} {lb b1 : Word} {cfg : HostConfig}
    {rest : List HostEvent} (hin : s.inbox = .attach (some rom) lb b1 cfg :: rest) :
    ∃ u, step s = .next u ∧ u.attached = true ∧ u.inbox = rest ∧ u.cfg = { cfg with rom := rom } :=
  ⟨_, step_of_attach hin, rfl, rfl, rfl⟩

/-- Settles O2: the created device's aperture control is 0, so the remapping maps the linear window. -/
theorem attachMakesNewDevice : Obligations.AttachMakesNewDevice := by
  intro s rom lb b1 cfg rest hin
  rw [step_of_attach hin, State.attachDevice, State.createDevice, State.updateMapping_eq, Ext.windows_eq]
  rfl

/-! ## Failures are reported by an attach without an image alone -/

/-- A report of `AttachFailure` among the calls of `t` was there in `s` (R371). -/
def State.reportsNone (s t : State) : Prop := .attachFailure ∈ t.outputs → .attachFailure ∈ s.outputs

theorem State.reportsNone_of_eq {s t : State} (h : t.outputs = s.outputs) : s.reportsNone t := by
  intro hmem
  rwa [h] at hmem

theorem State.reportsNone_of_call {s t : State} {o : Output} (h : t.outputs = o :: s.outputs)
    (ho : o ≠ .attachFailure) : s.reportsNone t := by
  intro hmem
  rw [h, List.mem_cons] at hmem
  exact hmem.resolve_left ho.symm

theorem State.drawsLaw.reportsNone {s t : State} (hd : s.drawsLaw t) : s.reportsNone t := by
  obtain ⟨-, ⟨calls, hout, hcalls⟩, -⟩ := hd
  intro hmem
  rw [hout, List.mem_append] at hmem
  refine hmem.resolve_left fun hcall => ?_
  obtain ⟨a, n, v, h⟩ := hcalls _ hcall
  cases h

theorem SubStoreEffect.reportsNone {s t : State} {f : SubField} (he : SubStoreEffect s f t) : s.reportsNone t := by
  cases he <;> exact State.reportsNone_of_eq rfl

theorem PortEffect.reportsNone {s t : State} {reached : Option SubField} (he : PortEffect s reached t) :
    s.reportsNone t := by
  cases he with
  | ignored => exact State.reportsNone_of_eq rfl
  | stores e => exact State.reportsNone_of_eq rfl
  | recalculates e => exact State.reportsNone_of_eq rfl
  | remaps e => exact State.reportsNone_of_call rfl (by simp)
  | sub _ hstore => exact hstore.reportsNone
  | subRecalculates _ hstore => exact hstore.reportsNone

/-- A blank line calls the host at vertical sync alone (R299). -/
theorem State.reportsNone_enterBlankLine (s : State) : s.reportsNone s.enterBlankLine := by
  have hbefore : (s.setLinepos false).advanceRow.advanceVc.testSplit.testDisplayEnd.outputs = s.outputs := by
    refine (State.atThreshold_field (field := State.outputs) (act := State.atDisplayEnd) (fun _ => rfl) _ _).trans ?_
    refine (State.atThreshold_field (field := State.outputs) (act := State.atSplit) (fun _ => rfl) _ _).trans ?_
    rw [State.advanceRow_eq]
    rfl
  have hlast (t : State) : t.testTotal.outputs = t.outputs :=
    State.atThreshold_field (field := State.outputs) (act := State.atTotal) (fun _ => rfl) _ _
  unfold State.reportsNone
  rw [State.enterBlankLine, hlast, ← hbefore]
  generalize (s.setLinepos false).advanceRow.advanceVc.testSplit.testDisplayEnd = t
  rw [State.testVsync, State.atThreshold]
  split
  · exact State.reportsNone_of_call rfl (by simp)
  · exact id

/-- An active line calls the host for its buffer alone (R286). -/
theorem State.reportsNone_enterActiveLine {s : State} (hon : s.flags.on = true) (hpos : s.raster.linepos = false) :
    s.reportsNone s.enterActiveLine := by
  have hcalls {t : State} {c : Prop} [Decidable c]
      (h : t.outputs = if c then .waitForBuffer :: s.outputs else s.outputs) : s.reportsNone t := by
    split at h
    · exact State.reportsNone_of_call h (by simp)
    · exact State.reportsNone_of_eq h
  cases hdisp : s.raster.dispon with
  | false =>
    refine State.reportsNone_of_eq ?_
    rw [State.enterActiveLine_of_dispoff hdisp, State.cursorTrigger_frame]
    rfl
  | true =>
    rw [← State.tick_of_active hon hpos]
    by_cases hshown : s.cursorTrigger.raster.hwcursorOn = 0
    · rw [State.tick_of_hidden hon hpos hdisp hshown, State.lineEnd_eq, State.lineRendered_eq]
      exact hcalls rfl
    · rw [State.tick_of_shown hon hpos hdisp hshown]
      exact hcalls rfl

theorem State.reportsNone_tick (s : State) : s.reportsNone s.tick := by
  cases hon : s.flags.on with
  | false => rw [State.tick_of_off hon]; exact id
  | true =>
    cases hpos : s.raster.linepos with
    | false => rw [State.tick_of_active hon hpos]; exact State.reportsNone_enterActiveLine hon hpos
    | true => rw [State.tick_of_blank hon hpos]; exact s.reportsNone_enterBlankLine

theorem RowEffect.reportsNone {s t : State} {i : Instr} (he : RowEffect s i t) : s.reportsNone t := by
  cases he with
  | draws hd => exact (hd.reportsNone :)
  | answers hd => exact (hd.reportsNone :)
  | port => exact (s.portWrite_effect _ _).reportsNone
  | field => exact (s.portStore_effect _ _).reportsNone
  | sub => exact (s.subWrite_effect _ _).reportsNone
  | tick => exact s.reportsNone_tick

theorem State.reportsNone_windowWrite (s : State) (o : Nat) (bs : List Byte) : s.reportsNone (s.windowWrite o bs) := by
  unfold State.windowWrite
  split
  · exact ((s.drawsLaw_wrBytes _ _).reportsNone :)
  · split
    · exact ((s.drawsLaw_wrBytes _ _).reportsNone :)
    · exact id

/-- The event is an attach for which the host has no ROM image (R371). -/
def HostEvent.attachFails (e : HostEvent) : Prop := ∃ lb b1 cfg, e = .attach none lb b1 cfg

/-- Every event but an attach without an image reports no failure (R371). -/
theorem State.reportsNone_deliver {s t : State} {e : HostEvent} (he : ¬ HostEvent.attachFails e)
    (h : s.deliver e = .next t) : s.reportsNone t := by
  cases e with
  | row bytes =>
    cases hdec : decode bytes with
    | ok r => simp only [State.deliver, hdec] at h; exact (RowEffect.of_exec h).reportsNone
    | error err => simp only [State.deliver, hdec] at h; cases h
  | legacyVramWrite a v =>
    rw [State.deliver_legacyVramWrite] at h
    split at h
    · cases h
    · cases h; rw [State.legacyWrite_frame]; exact id
  | attach rom lb b1 cfg =>
    cases rom with
    | none => exact absurd ⟨lb, b1, cfg, rfl⟩ he
    | some image => cases h; exact State.reportsNone_of_call rfl (by simp)
  | windowWrite off len val => cases h; exact s.reportsNone_windowWrite _ _
  | setLinearBase v => cases h; exact State.reportsNone_of_call rfl (by simp)
  | setBaseAddr1mb v => cases h; exact State.reportsNone_of_call rfl (by simp)
  | legacyCrtcWrite k v => cases h; rw [State.crtcWrite_frame]; exact id
  | windowRead off len => cases h; exact id
  | setOn v => cases h; exact id
  | setLinearEndianReverse v => cases h; exact id
  | setCursorDataOn v => cases h; exact id
  | legacyCrtcRead k => cases h; exact id
  | detach => cases h; exact id

theorem step_of_refused {s : State} {e : HostEvent} {rest : List HostEvent} (hin : s.inbox = e :: rest)
    (hmay : (s.attached || HostEvent.isAttach e) = false) : step s = .refused .notAttached := by
  simp [step, hin, hmay]

/-- Settles O3: the failed attach and the detach destroy the device, and every other step is walked for its reports. -/
theorem failedAttachAndDetachLeaveNoDevice : Obligations.FailedAttachAndDetachLeaveNoDevice := by
  refine ⟨?fails, ?reports, ?detaches, ?refuses⟩
  case fails =>
    intro s lb b1 cfg rest hin
    exact ⟨_, step_of_attach hin, rfl, rfl, rfl, rfl, rfl, rfl, rfl, rfl,
      fun _ _ _ _ _ hrest => exists_device_of_attach hrest⟩
  case reports =>
    intro s t hstep hmem
    cases hin : s.inbox with
    | nil =>
      rw [step_of_inbox_nil hin] at hstep
      cases hstep
      exact .inl hmem
    | cons e rest =>
      cases hmay : s.attached || HostEvent.isAttach e with
      | false => rw [step_of_refused hin hmay] at hstep; cases hstep
      | true =>
        rw [step_of_inbox_cons hin hmay] at hstep
        by_cases hfails : HostEvent.attachFails e
        · obtain ⟨lb, b1, cfg, rfl⟩ := hfails
          exact .inr ⟨lb, b1, cfg, rest, rfl⟩
        · exact .inl (State.reportsNone_deliver hfails hstep hmem :)
  case detaches =>
    intro s rest hatt hin
    have hstep := step_of_inbox_cons hin (by rw [hatt, Bool.true_or])
    exact ⟨_, hstep, rfl, rfl, rfl, rfl, rfl, rfl, rfl, rfl⟩
  case refuses =>
    intro s e rest hatt hin hnot
    exact step_of_refused hin (by rw [hatt, hnot]; rfl)

/-! ## No operation raises -/

theorem RowEffect.inbox {s t : State} {i : Instr} (he : RowEffect s i t) : t.inbox = s.inbox := by
  have hdraws {u v : State} (hd : u.drawsLaw v) : v.inbox = u.inbox := by
    obtain ⟨hframe, -, -⟩ := hd
    exact State.sameButDrawing_inbox hframe
  have hkeeps {u : State} (hk : s.keepsHost u) : u.inbox = s.inbox := by
    obtain ⟨hinbox, -⟩ := hk
    exact hinbox
  cases he with
  | draws hd => exact (hdraws hd :)
  | answers hd => exact (hdraws hd :)
  | port => exact hkeeps (s.keepsHost_portWrite _ _)
  | field => exact hkeeps (s.keepsHost_portStore _ _)
  | sub => exact hkeeps (s.keepsHost_subWrite _ _)
  | tick =>
    have hframe := s.sameButTick_tick
    unfold State.sameButTick at hframe
    rw [hframe]

/-- No event puts another into the inbox or takes one out of it. -/
theorem EventEffect.inbox {s t : State} (he : EventEffect s t) : t.inbox = s.inbox := by
  cases he with
  | row hr => exact hr.inbox
  | answers v => rfl
  | window hd =>
    obtain ⟨hframe, -, -⟩ := hd
    exact (State.sameButDrawing_inbox hframe :)
  | flags f => rfl
  | bases e => rfl
  | legacyVram a v => rw [State.legacyWrite_frame]
  | legacyCrtc k v => rw [State.crtcWrite_frame]
  | attach rom lb b1 cfg => cases rom <;> rfl
  | detach => rfl

theorem exec_isNext (i : Instr) (s : State) : ∃ t, exec i s = .next t := by
  obtain ⟨t, ht, -⟩ := exec_effect i s
  exact ⟨t, ht⟩

/-- A deliverable event answers a next state (R370). -/
theorem State.deliver_isNext {s : State} {e : HostEvent} (h : HostEvent.deliverable s e = true) :
    ∃ t, s.deliver e = .next t := by
  cases e with
  | row bytes =>
    cases hdec : decode bytes with
    | ok r => simp only [State.deliver, hdec]; exact exec_isNext r.1 s
    | error err => simp [HostEvent.deliverable, hdec] at h
  | legacyVramWrite a v =>
    have hoff : s.flags.on = false := by simpa [HostEvent.deliverable] using h
    exact ⟨_, by rw [State.deliver_legacyVramWrite, hoff]; rfl⟩
  | _ => exact ⟨_, rfl⟩

/-- Settles O7: every row answers a next state, and no effect of an event touches the inbox. -/
theorem noOperationRaises : Obligations.NoOperationRaises := by
  refine ⟨exec_isNext, fun s e rest hatt hin hdel => ?_⟩
  have hdel' : HostEvent.deliverable { s with inbox := rest } e = true := by cases e <;> exact hdel
  obtain ⟨t, ht⟩ := State.deliver_isNext hdel'
  exact ⟨t, (step_of_inbox_cons hin (by rw [hatt, Bool.true_or])).trans ht, (State.deliver_effect ht).inbox⟩

end Sys2Proof.Machine
end
